-- ==== Sys2Proof/Word.lean ====
section
/-! DEFINITION. The word types of the SFE (00_scope.md R9, R15): unsigned values of fixed width. -/

namespace Sys2Proof

/-- One byte of a frame or of a window (00_scope.md R10). -/
abbrev Byte := BitVec 8

/-- A 16-bit value: types, lengths, ports, quadruple slots. -/
abbrev Half := BitVec 16

/-- A 32-bit value: a register word, the cookie, an IPv4 address. -/
abbrev Word := BitVec 32

/-- A 96-bit transaction id (30_encoding.md R95). -/
abbrev TxId := BitVec 96

/-- A 128-bit value: an IPv6 address or its mask. -/
abbrev Quad128 := BitVec 128

end Sys2Proof
end

