-- ==== Sys2Proof/Config.lean ====
section
/-! DEFINITION. What the SFE fixes (00_scope.md R8, 10_state.md R39) and the free values it leaves open (20_memory.md R73). -/

namespace Sys2Proof.Config

/-- ID reads "STUN" (10_state.md R21). -/
def idValue : Word := 0x5354554E#32

/-- MAGIC_COOKIE (10_state.md R39, 30_encoding.md R94). -/
def magicCookie : Word := 0x2112A442#32

/-- HDR_BYTES: the header size and the least accepted frame length (00_scope.md R8, 43_request_processor.md R241). -/
def hdrBytes : Nat := 20

/-- Message type codes (30_encoding.md R92). -/
def typeBindingRequest : Half := 0x0001#16
def typeSuccess : Half := 0x0101#16
def typeError : Half := 0x0111#16

/-- Attribute type codes (30_encoding.md R97). -/
def attrXorMapped : Half := 0x0020#16
def attrErrorCode : Half := 0x0009#16
def attrUnknown : Half := 0x000A#16

/-- Family codes, on the wire and in PEER_FAMILY (30_encoding.md R100, 10_state.md R25). -/
def familyV4 : Byte := 0x01#8
def familyV6 : Byte := 0x02#8

/-- CTRL.OP = PROCESS (30_encoding.md R111). -/
def opProcess : BitVec 4 := 0x1#4

/-- Outcome codes (60_exceptions.md R301). -/
def outcomeNone : BitVec 4 := 0x0#4
def outcomeSuccessV4 : BitVec 4 := 0x1#4
def outcomeSuccessV6 : BitVec 4 := 0x2#4
def outcomeErr400 : BitVec 4 := 0x3#4
def outcomeErr420Type : BitVec 4 := 0x4#4
def outcomeErr420Cookie : BitVec 4 := 0x5#4

/-- The reason text "Bad request." with its period, 12 bytes (90_conflicts.md C1; byte values 42_response_builder.md R200). -/
def badRequest : List Byte :=
  [0x42#8, 0x61#8, 0x64#8, 0x20#8, 0x72#8, 0x65#8, 0x71#8, 0x75#8, 0x65#8, 0x73#8, 0x74#8, 0x2e#8]

/-- FREE VALUE: the word the k-th read of a result register during BUSY would show, in the instance that draws from stream `j`
(20_memory.md R73, D9). No body: nothing can be proved of its value, nor that two of its values agree. Log entry 6. -/
opaque freeDraw (j k : Nat) : Word

end Sys2Proof.Config
end

