-- ==== Sys2Proof/Syntax.lean ====
section
/-! DEFINITION. The syntax of the SFE: one constructor of Instr per row of spec/opcode_table.json, and the events in which
operations reach an instance. -/

namespace Sys2Proof

/-- A value on a datapath block's operand or result port, tagged with its width (00_scope.md R15, 40_codec.md R130). -/
inductive Datum where
  /-- nothing: the port before any direct call -/
  | none
  | u16 (v : Half)
  | u32 (v : Word)
  | u64 (v : BitVec 64)
  | u96 (v : TxId)
  | u128 (v : Quad128)
  /-- an error code, "integer 300-699" in the opcode table (42_response_builder.md R199) -/
  | code (c : Nat)
  /-- a byte sequence -/
  | bytes (s : List Byte)
  deriving DecidableEq, Repr

/-- The datapath operations that no encoding selects: the rows of formats ENGINE_STEP (PROCESS), HDR and BUILDER_SUBOP,
and the dispatch row BUILD_SUCCESS (30_encoding.md, its introduction). -/
inductive UnitOp where
  | process | decodeHeader | validate | buildSuccess
  | xorPort | xorAddrV4 | xorMaskV6 | xorAddrV6
  | encHeader | encAttrHeader | encAddrBodyV4 | encAddrBodyV6
  | encErrorCode | padReason | encErrorBody | encUnknownBody
  deriving DecidableEq, Repr

/-- One event of an instance (20_memory.md R70). The first four constructors are the spec's events; the others call one
datapath block of the instance directly (log entry 5). -/
inductive Event where
  /-- `MemRead(BASE_k + off, n)`, n in bytes (20_memory.md R64, R65) -/
  | read (off n : Nat)
  /-- `MemWrite(BASE_k + off, n, v)` (20_memory.md R64, R65) -/
  | write (off n : Nat) (v : Word)
  /-- the hardware reset input RST (70_reset_and_hazards.md R340) -/
  | rst
  /-- the engine's turn (20_memory.md R70, 43_request_processor.md R249) -/
  | engineStep
  /-- run the IN_LEN row that the latched length L_LEN selects -/
  | lengthTest
  /-- run the HDR_TYPE row that H_TYPE selects -/
  | typeTest
  /-- run the HDR_COOKIE row that H_COOKIE selects -/
  | cookieTest
  /-- run the builder that DSEL selects (30_encoding.md R112) -/
  | builder
  /-- run the codec operation that CODEC_SEL names (30_encoding.md R113) -/
  | codec (sel : BitVec 6) (arg : Datum)
  /-- run a datapath operation that no encoding selects -/
  | unit (op : UnitOp) (args : List Datum)
  /-- emit a message_type code point (30_encoding.md R92) -/
  | wireType (w : Half)
  /-- emit an attribute_type code point (30_encoding.md R97) -/
  | wireAttr (w : Half)
  /-- emit a family code point (30_encoding.md R100) -/
  | wireFamily (w : Byte)
  /-- emit an error_code field (30_encoding.md R102) -/
  | wireError (w : Word)
  deriving DecidableEq, Repr

/-- `WR off, v` of the host assembly (30_encoding.md R116). -/
abbrev Event.wr (off : Nat) (v : Word) : Event := .write off 4 v
/-- `RD off` of the host assembly (30_encoding.md R116). -/
abbrev Event.rd (off : Nat) : Event := .read off 4
/-- The pseudo-operation START (30_encoding.md R116). -/
abbrev Event.startCmd : Event := .wr 0x004 0x00000011#32
/-- The pseudo-operation STARTI (30_encoding.md R116). -/
abbrev Event.startIrqCmd : Event := .wr 0x004 0x00000015#32
/-- The pseudo-operation CLEAR (30_encoding.md R116). -/
abbrev Event.clearCmd : Event := .wr 0x008 0x0000001E#32

/-- The instructions: one constructor per row of spec/opcode_table.json, in the table's order. A host access names its
register by the word index, bits 7:2 of the byte offset. -/
inductive Instr where
  -- BUS_READ, BUS_WRITE
  | hostRd (idx : BitVec 6)
  | hostWr (idx : BitVec 6) (v : Word)
  | hostWrIgnored (idx : BitVec 6) (v : Word)
  -- CTRL_WR, STATUS_WR: a write of v to CTRL or STATUS
  | cmdSoftReset (v : Word)
  | startBusy (v : Word)
  | startReservedOp (v : Word)
  | startBadFamily (v : Word)
  | cmdProcess (v : Word)
  | ctrlConfig (v : Word)
  | statusW1c (v : Word)
  -- ENGINE_STEP
  | engineCommit
  | process
  -- IN_LEN
  | rxShort0to15
  | rxShort16to19
  | rxFullHeader
  -- HDR, HDR_TYPE, HDR_COOKIE
  | decodeHeader
  | validate
  | rxBindingRequest
  | rxOtherType
  | rxCookieOk
  | rxCookieBad
  -- DSEL
  | buildError
  | buildError420Type
  | buildError420Cookie
  | buildSuccessV4
  | buildSuccessV6
  | buildSuccess
  -- BUILDER_SUBOP
  | xorPort (p : Half)
  | xorAddrV4 (a : Word)
  | xorMaskV6 (t : TxId)
  | xorAddrV6 (a : Quad128) (t : TxId)
  | encHeader (ty ml : Half) (t : TxId)
  | encAttrHeader (ty al : Half)
  | encAddrBodyV4 (p : Half) (a : Word)
  | encAddrBodyV6 (p : Half) (a : Quad128) (t : TxId)
  | encErrorCode (c : Nat)
  | padReason (r : List Byte)
  | encErrorBody (c : Nat) (r : List Byte)
  | encUnknownBody (q0 q1 q2 q3 : Half)
  -- CODEC_SEL
  | decU16 (s : List Byte)
  | decU32 (s : List Byte)
  | decU64 (s : List Byte)
  | decU96 (s : List Byte)
  | decU128 (s : List Byte)
  | encU16 (v : Half)
  | encU32 (v : Word)
  | encU64 (v : BitVec 64)
  | encU96 (v : TxId)
  | encU128 (v : Quad128)
  -- WIRE_*
  | txSuccessResponse
  | txErrorResponse
  | attrXorMappedAddress
  | attrErrorCode
  | attrUnknownAttributes
  | familyIpv4
  | familyIpv6
  | errcode400
  | errcode420
  deriving DecidableEq, Repr

end Sys2Proof
end

