-- ==== Sys2Proof/WellFormed.lean ====
section
/-! DEFINITION. Well-formed instructions: what the opcode table's match, mask and field lists demand of an operand, whatever the
state. -/

namespace Sys2Proof

/-- A row's match and mask applied to a word (30_encoding.md, its introduction). -/
abbrev rowMatches {n : Nat} (pat mask w : BitVec n) : Bool := w &&& mask == pat

/-- The word indexes of the data registers HOST_WR stores to: 0x00C, 0x010, 0x014, 0x020..0x02C, 0x040..0x050
(44_host_commands.md R271). -/
abbrev isDataIndex (idx : BitVec 6) : Bool :=
  let k := idx.toNat
  k == 3 || k == 4 || k == 5 || (8 ≤ k && k ≤ 11) || (16 ≤ k && k ≤ 20)

/-- The word indexes of CTRL (0x004) and STATUS (0x008), whose writes are commands (30_encoding.md R110). -/
abbrev isCommandIndex (idx : BitVec 6) : Bool := idx == 1#6 || idx == 2#6

/-- The error codes that are operands of ENC_ERROR_CODE (42_response_builder.md R199). -/
abbrev isErrorCode (c : Nat) : Bool := 300 ≤ c && c ≤ 699

/-- Well-formedness of an instruction: its operands are ones the table's row admits. -/
def Instr.wf : Instr → Bool
  | .hostRd _ => true
  | .hostWr idx _ => isDataIndex idx
  | .hostWrIgnored idx _ => !isDataIndex idx && !isCommandIndex idx
  | .cmdSoftReset v => rowMatches 0x00000002#32 0x00000002#32 v
  | .startBusy v => rowMatches 0x00000001#32 0x00000003#32 v
  | .startReservedOp v => rowMatches 0x00000001#32 0x00000003#32 v && v.extractLsb' 4 4 != Config.opProcess
  | .startBadFamily v => rowMatches 0x00000011#32 0x000000F3#32 v
  | .cmdProcess v => rowMatches 0x00000011#32 0x000000F3#32 v
  | .ctrlConfig v => rowMatches 0x00000000#32 0x00000003#32 v
  | .statusW1c _ => true
  | .engineCommit => true
  | .process => true
  | .rxShort0to15 => true
  | .rxShort16to19 => true
  | .rxFullHeader => true
  | .decodeHeader => true
  | .validate => true
  | .rxBindingRequest => true
  | .rxOtherType => true
  | .rxCookieOk => true
  | .rxCookieBad => true
  | .buildError => true
  | .buildError420Type => true
  | .buildError420Cookie => true
  | .buildSuccessV4 => true
  | .buildSuccessV6 => true
  | .buildSuccess => true
  | .xorPort _ => true
  | .xorAddrV4 _ => true
  | .xorMaskV6 _ => true
  | .xorAddrV6 _ _ => true
  | .encHeader _ _ _ => true
  | .encAttrHeader _ _ => true
  | .encAddrBodyV4 _ _ => true
  | .encAddrBodyV6 _ _ _ => true
  | .encErrorCode c => isErrorCode c
  | .padReason _ => true
  | .encErrorBody c _ => isErrorCode c
  | .encUnknownBody _ _ _ _ => true
  | .decU16 _ => true
  | .decU32 _ => true
  | .decU64 _ => true
  | .decU96 _ => true
  | .decU128 _ => true
  | .encU16 _ => true
  | .encU32 _ => true
  | .encU64 _ => true
  | .encU96 _ => true
  | .encU128 _ => true
  | .txSuccessResponse => true
  | .txErrorResponse => true
  | .attrXorMappedAddress => true
  | .attrErrorCode => true
  | .attrUnknownAttributes => true
  | .familyIpv4 => true
  | .familyIpv6 => true
  | .errcode400 => true
  | .errcode420 => true

end Sys2Proof
end

