-- ==== Sys2Proof/Decode.lean ====
section
/-! DEFINITION. Decoding: from an event, and the registers its rows are matched on, to an instruction or a rejection by name;
then the encoder; then the reading of the opcode table's bare words. -/

namespace Sys2Proof

/-- What decoding reads of the instance beside the event: the state conditions of the CTRL_WR rows (30_encoding.md R110) and the
registers the IN_LEN, HDR_TYPE, HDR_COOKIE and DSEL rows are matched on. -/
structure View where
  busy : Bool
  peerFamily : Byte
  lLen : Word
  hType : Half
  hCookie : Word
  dsel : BitVec 11
  deriving DecidableEq, Repr

/-- Why an event is no instruction. -/
inductive Reject where
  /-- a host access the spec defines no meaning for (20_memory.md R65); `off` is the offset, `n` the width in bytes -/
  | hostAccessUndefined (off n : Nat)
  /-- the reset input is an event but no row of the opcode table (70_reset_and_hazards.md R340); `step` handles it first -/
  | resetInput
  /-- a DSEL value that "never occurs" (30_encoding.md R112) -/
  | selectorNeverOccurs (dsel : BitVec 11)
  /-- a CODEC_SEL value that names none of the ten operations (30_encoding.md R113) -/
  | codecSelUnused (sel : BitVec 6)
  /-- a direct call whose operands have not the operation's number and widths -/
  | operandShape
  /-- an error code that "is not an operand" (42_response_builder.md R199) -/
  | operandRange (c : Nat)
  /-- a code point the builders never emit (30_encoding.md R92, R97, R100, R102) -/
  | codePointNotEmitted
  deriving DecidableEq, Repr

/-- The rows of a CTRL write (30_encoding.md R110). -/
inductive CtrlRow where
  | softReset | startBusy | startReservedOp | startBadFamily | process | config
  deriving DecidableEq, Repr

/-- PEER_FAMILY is one of the two legal codes (10_state.md R25). -/
def legalFamily (f : Byte) : Bool := f == Config.familyV4 || f == Config.familyV6

/-- The first matching row of a write of v to CTRL (30_encoding.md R110, 60_exceptions.md R307). -/
def ctrlRow (v : Word) (busy : Bool) (family : Byte) : CtrlRow :=
  if rowMatches 0x00000002#32 0x00000002#32 v then .softReset
  else if rowMatches 0x00000001#32 0x00000003#32 v then
    if busy then .startBusy
    else if !rowMatches 0x00000011#32 0x000000F3#32 v then .startReservedOp
    else if !legalFamily family then .startBadFamily
    else .process
  else .config

/-- The CTRL_WR instruction of a row. -/
def CtrlRow.instr (v : Word) : CtrlRow → Instr
  | .softReset => .cmdSoftReset v
  | .startBusy => .startBusy v
  | .startReservedOp => .startReservedOp v
  | .startBadFamily => .startBadFamily v
  | .process => .cmdProcess v
  | .config => .ctrlConfig v

/-- An access the SFE defines: 4 bytes wide, at an aligned offset inside the block (20_memory.md R64). -/
def accessDefined (off n : Nat) : Bool := n == 4 && off % 4 == 0 && decide (off ≤ 0x0FC)

/-- The word index of an offset: its bits 7:2. -/
def wordIndex (off : Nat) : BitVec 6 := BitVec.ofNat 6 (off / 4)

/-- A defined write (30_encoding.md R110: CTRL and STATUS writes are commands; 44_host_commands.md R271, R280). -/
def decodeWrite (w : View) (idx : BitVec 6) (v : Word) : Instr :=
  if idx = 1#6 then (ctrlRow v w.busy w.peerFamily).instr v
  else if idx = 2#6 then .statusW1c v
  else if isDataIndex idx then .hostWr idx v
  else .hostWrIgnored idx v

/-- The IN_LEN rows in table order (30_encoding.md R108 test 1; opcode table). -/
def decodeLength (len : Word) : Instr :=
  if rowMatches 0x00000000#32 0xFFFFFFF0#32 len then .rxShort0to15
  else if rowMatches 0x00000010#32 0xFFFFFFFC#32 len then .rxShort16to19
  else .rxFullHeader

/-- The HDR_TYPE rows in table order (30_encoding.md R108 test 2). -/
def decodeType (ty : Half) : Instr :=
  if rowMatches 0x0001#16 0xFFFF#16 ty then .rxBindingRequest else .rxOtherType

/-- The HDR_COOKIE rows in table order (30_encoding.md R108 test 3). -/
def decodeCookie (c : Word) : Instr :=
  if rowMatches 0x2112A442#32 0xFFFFFFFF#32 c then .rxCookieOk else .rxCookieBad

/-- The DSEL rows (30_encoding.md R112). -/
def decodeDsel (d : BitVec 11) : Except Reject Instr :=
  if rowMatches 0x400#11 0x400#11 d then .ok .buildError
  else if rowMatches 0x100#11 0x700#11 d then .ok .buildError420Type
  else if rowMatches 0x200#11 0x700#11 d then .ok .buildError420Cookie
  else if rowMatches 0x001#11 0x7FF#11 d then .ok .buildSuccessV4
  else if rowMatches 0x002#11 0x7FF#11 d then .ok .buildSuccessV6
  else .error (.selectorNeverOccurs d)

/-- The ten codec operations (30_encoding.md R113, 40_codec.md R131 to R140). -/
def decodeCodec (sel : BitVec 6) (arg : Datum) : Except Reject Instr :=
  if sel = 0b000010#6 then match arg with | .bytes s => .ok (.decU16 s) | _ => .error .operandShape
  else if sel = 0b000100#6 then match arg with | .bytes s => .ok (.decU32 s) | _ => .error .operandShape
  else if sel = 0b001000#6 then match arg with | .bytes s => .ok (.decU64 s) | _ => .error .operandShape
  else if sel = 0b001100#6 then match arg with | .bytes s => .ok (.decU96 s) | _ => .error .operandShape
  else if sel = 0b010000#6 then match arg with | .bytes s => .ok (.decU128 s) | _ => .error .operandShape
  else if sel = 0b100010#6 then match arg with | .u16 v => .ok (.encU16 v) | _ => .error .operandShape
  else if sel = 0b100100#6 then match arg with | .u32 v => .ok (.encU32 v) | _ => .error .operandShape
  else if sel = 0b101000#6 then match arg with | .u64 v => .ok (.encU64 v) | _ => .error .operandShape
  else if sel = 0b101100#6 then match arg with | .u96 v => .ok (.encU96 v) | _ => .error .operandShape
  else if sel = 0b110000#6 then match arg with | .u128 v => .ok (.encU128 v) | _ => .error .operandShape
  else .error (.codecSelUnused sel)

/-- The operations no encoding selects, with the operands their rules give them (42_response_builder.md R190 to R202). -/
def decodeUnit (op : UnitOp) (args : List Datum) : Except Reject Instr :=
  match op, args with
  | .process, [] => .ok .process
  | .decodeHeader, [] => .ok .decodeHeader
  | .validate, [] => .ok .validate
  | .buildSuccess, [] => .ok .buildSuccess
  | .xorPort, [.u16 p] => .ok (.xorPort p)
  | .xorAddrV4, [.u32 a] => .ok (.xorAddrV4 a)
  | .xorMaskV6, [.u96 t] => .ok (.xorMaskV6 t)
  | .xorAddrV6, [.u128 a, .u96 t] => .ok (.xorAddrV6 a t)
  | .encHeader, [.u16 ty, .u16 ml, .u96 t] => .ok (.encHeader ty ml t)
  | .encAttrHeader, [.u16 ty, .u16 al] => .ok (.encAttrHeader ty al)
  | .encAddrBodyV4, [.u16 p, .u32 a] => .ok (.encAddrBodyV4 p a)
  | .encAddrBodyV6, [.u16 p, .u128 a, .u96 t] => .ok (.encAddrBodyV6 p a t)
  | .encErrorCode, [.code c] => if isErrorCode c then .ok (.encErrorCode c) else .error (.operandRange c)
  | .padReason, [.bytes r] => .ok (.padReason r)
  | .encErrorBody, [.code c, .bytes r] => if isErrorCode c then .ok (.encErrorBody c r) else .error (.operandRange c)
  | .encUnknownBody, [.u16 q0, .u16 q1, .u16 q2, .u16 q3] => .ok (.encUnknownBody q0 q1 q2 q3)
  | _, _ => .error .operandShape

/-- The message types the builders emit (30_encoding.md R92). -/
def decodeWireType (w : Half) : Except Reject Instr :=
  if rowMatches 0x0101#16 0xFFFF#16 w then .ok .txSuccessResponse
  else if rowMatches 0x0111#16 0xFFFF#16 w then .ok .txErrorResponse
  else .error .codePointNotEmitted

/-- The attribute types the builders emit (30_encoding.md R97). -/
def decodeWireAttr (w : Half) : Except Reject Instr :=
  if rowMatches 0x0020#16 0xFFFF#16 w then .ok .attrXorMappedAddress
  else if rowMatches 0x0009#16 0xFFFF#16 w then .ok .attrErrorCode
  else if rowMatches 0x000A#16 0xFFFF#16 w then .ok .attrUnknownAttributes
  else .error .codePointNotEmitted

/-- The family codes (30_encoding.md R100). -/
def decodeWireFamily (w : Byte) : Except Reject Instr :=
  if rowMatches 0x01#8 0xFF#8 w then .ok .familyIpv4
  else if rowMatches 0x02#8 0xFF#8 w then .ok .familyIpv6
  else .error .codePointNotEmitted

/-- The error codes the builders emit (30_encoding.md R102). -/
def decodeWireError (w : Word) : Except Reject Instr :=
  if rowMatches 0x00000400#32 0xFFFFFFFF#32 w then .ok .errcode400
  else if rowMatches 0x00000414#32 0xFFFFFFFF#32 w then .ok .errcode420
  else .error .codePointNotEmitted

/-- The instruction an event is, in an instance whose registers show `w`. Total; every event that is no row of the opcode table
is rejected by name. -/
def decode (w : View) : Event → Except Reject Instr
  | .read off n => if accessDefined off n then .ok (.hostRd (wordIndex off)) else .error (.hostAccessUndefined off n)
  | .write off n v =>
    if accessDefined off n then .ok (decodeWrite w (wordIndex off) v) else .error (.hostAccessUndefined off n)
  | .rst => .error .resetInput
  | .engineStep => .ok .engineCommit
  | .lengthTest => .ok (decodeLength w.lLen)
  | .typeTest => .ok (decodeType w.hType)
  | .cookieTest => .ok (decodeCookie w.hCookie)
  | .builder => decodeDsel w.dsel
  | .codec sel arg => decodeCodec sel arg
  | .unit op args => decodeUnit op args
  | .wireType w' => decodeWireType w'
  | .wireAttr w' => decodeWireAttr w'
  | .wireFamily w' => decodeWireFamily w'
  | .wireError w' => decodeWireError w'

/-! ## The encoder -/

/-- The byte offset of a word index. -/
def byteOffset (idx : BitVec 6) : Nat := 4 * idx.toNat

/-- The event that presents an instruction: its bus access (30_encoding.md R116), its selector and operands, or the test whose
register selects it. -/
def encode : Instr → Event
  | .hostRd idx => .read (byteOffset idx) 4
  | .hostWr idx v => .write (byteOffset idx) 4 v
  | .hostWrIgnored idx v => .write (byteOffset idx) 4 v
  | .cmdSoftReset v => .write 0x004 4 v
  | .startBusy v => .write 0x004 4 v
  | .startReservedOp v => .write 0x004 4 v
  | .startBadFamily v => .write 0x004 4 v
  | .cmdProcess v => .write 0x004 4 v
  | .ctrlConfig v => .write 0x004 4 v
  | .statusW1c v => .write 0x008 4 v
  | .engineCommit => .engineStep
  | .process => .unit .process []
  | .rxShort0to15 => .lengthTest
  | .rxShort16to19 => .lengthTest
  | .rxFullHeader => .lengthTest
  | .decodeHeader => .unit .decodeHeader []
  | .validate => .unit .validate []
  | .rxBindingRequest => .typeTest
  | .rxOtherType => .typeTest
  | .rxCookieOk => .cookieTest
  | .rxCookieBad => .cookieTest
  | .buildError => .builder
  | .buildError420Type => .builder
  | .buildError420Cookie => .builder
  | .buildSuccessV4 => .builder
  | .buildSuccessV6 => .builder
  | .buildSuccess => .unit .buildSuccess []
  | .xorPort p => .unit .xorPort [.u16 p]
  | .xorAddrV4 a => .unit .xorAddrV4 [.u32 a]
  | .xorMaskV6 t => .unit .xorMaskV6 [.u96 t]
  | .xorAddrV6 a t => .unit .xorAddrV6 [.u128 a, .u96 t]
  | .encHeader ty ml t => .unit .encHeader [.u16 ty, .u16 ml, .u96 t]
  | .encAttrHeader ty al => .unit .encAttrHeader [.u16 ty, .u16 al]
  | .encAddrBodyV4 p a => .unit .encAddrBodyV4 [.u16 p, .u32 a]
  | .encAddrBodyV6 p a t => .unit .encAddrBodyV6 [.u16 p, .u128 a, .u96 t]
  | .encErrorCode c => .unit .encErrorCode [.code c]
  | .padReason r => .unit .padReason [.bytes r]
  | .encErrorBody c r => .unit .encErrorBody [.code c, .bytes r]
  | .encUnknownBody q0 q1 q2 q3 => .unit .encUnknownBody [.u16 q0, .u16 q1, .u16 q2, .u16 q3]
  | .decU16 s => .codec 0b000010#6 (.bytes s)
  | .decU32 s => .codec 0b000100#6 (.bytes s)
  | .decU64 s => .codec 0b001000#6 (.bytes s)
  | .decU96 s => .codec 0b001100#6 (.bytes s)
  | .decU128 s => .codec 0b010000#6 (.bytes s)
  | .encU16 v => .codec 0b100010#6 (.u16 v)
  | .encU32 v => .codec 0b100100#6 (.u32 v)
  | .encU64 v => .codec 0b101000#6 (.u64 v)
  | .encU96 v => .codec 0b101100#6 (.u96 v)
  | .encU128 v => .codec 0b110000#6 (.u128 v)
  | .txSuccessResponse => .wireType 0x0101#16
  | .txErrorResponse => .wireType 0x0111#16
  | .attrXorMappedAddress => .wireAttr 0x0020#16
  | .attrErrorCode => .wireAttr 0x0009#16
  | .attrUnknownAttributes => .wireAttr 0x000A#16
  | .familyIpv4 => .wireFamily 0x01#8
  | .familyIpv6 => .wireFamily 0x02#8
  | .errcode400 => .wireError 0x00000400#32
  | .errcode420 => .wireError 0x00000414#32

/-- The registers select this instruction when its event comes: the opcode table's state conditions, and the matches on L_LEN,
H_TYPE, H_COOKIE and DSEL. The other rows need nothing of the state. -/
def selects (w : View) : Instr → Prop
  | .hostRd _ => True
  | .hostWr _ _ => True
  | .hostWrIgnored _ _ => True
  | .cmdSoftReset _ => True
  | .startBusy _ => w.busy = true
  | .startReservedOp _ => w.busy = false
  | .startBadFamily _ => w.busy = false ∧ w.peerFamily ≠ 0x01#8 ∧ w.peerFamily ≠ 0x02#8
  | .cmdProcess _ => w.busy = false ∧ (w.peerFamily = 0x01#8 ∨ w.peerFamily = 0x02#8)
  | .ctrlConfig _ => True
  | .statusW1c _ => True
  | .engineCommit => True
  | .process => True
  | .rxShort0to15 => w.lLen.toNat ≤ 15
  | .rxShort16to19 => 16 ≤ w.lLen.toNat ∧ w.lLen.toNat ≤ 19
  | .rxFullHeader => 20 ≤ w.lLen.toNat
  | .decodeHeader => True
  | .validate => True
  | .rxBindingRequest => w.hType = 0x0001#16
  | .rxOtherType => w.hType ≠ 0x0001#16
  | .rxCookieOk => w.hCookie = 0x2112A442#32
  | .rxCookieBad => w.hCookie ≠ 0x2112A442#32
  | .buildError => w.dsel.getLsbD 10 = true
  | .buildError420Type => w.dsel.extractLsb' 8 3 = 0b001#3
  | .buildError420Cookie => w.dsel.extractLsb' 8 3 = 0b010#3
  | .buildSuccessV4 => w.dsel = 0x001#11
  | .buildSuccessV6 => w.dsel = 0x002#11
  | .buildSuccess => True
  | .xorPort _ => True
  | .xorAddrV4 _ => True
  | .xorMaskV6 _ => True
  | .xorAddrV6 _ _ => True
  | .encHeader _ _ _ => True
  | .encAttrHeader _ _ => True
  | .encAddrBodyV4 _ _ => True
  | .encAddrBodyV6 _ _ _ => True
  | .encErrorCode _ => True
  | .padReason _ => True
  | .encErrorBody _ _ => True
  | .encUnknownBody _ _ _ _ => True
  | .decU16 _ => True
  | .decU32 _ => True
  | .decU64 _ => True
  | .decU96 _ => True
  | .decU128 _ => True
  | .encU16 _ => True
  | .encU32 _ => True
  | .encU64 _ => True
  | .encU96 _ => True
  | .encU128 _ => True
  | .txSuccessResponse => True
  | .txErrorResponse => True
  | .attrXorMappedAddress => True
  | .attrErrorCode => True
  | .attrUnknownAttributes => True
  | .familyIpv4 => True
  | .familyIpv6 => True
  | .errcode400 => True
  | .errcode420 => True

/-! ## The opcode table's bare words

The table's match words stand for different things in different formats, and one number is the word of several rows (0x02 is a
CTRL write, the selector of DEC_U16 and the family of IPv6). `tableFormat` picks one format for a width and a number; log entry
14 lists what it picks and which rows share a word. -/

/-- The formats a bare word can be read in. -/
inductive TableFormat where
  | busRead | ctrlWrite | codecSel | dselSel | dispatchSuccess | wireTypeW | wireAttrW | wireErrorW | lengthW | typeW | cookieW
  deriving DecidableEq, Repr

/-- The format in which a bare word of `nbits` bits is read. -/
def tableFormat (nbits w : Nat) : TableFormat :=
  if nbits ≤ 8 then
    if w = 0x04 ∨ w = 0x08 ∨ w = 0x0C ∨ w = 0x10 ∨ w = 0x22 ∨ w = 0x24 ∨ w = 0x28 ∨ w = 0x2C ∨ w = 0x30 then .codecSel
    else if w % 4 = 0 then .busRead
    else .ctrlWrite
  else if nbits ≤ 16 then
    if w = 0x0101 ∨ w = 0x0111 then .wireTypeW
    else if w = 0x0020 ∨ w = 0x0009 ∨ w = 0x000A then .wireAttrW
    else if w = 0 then .dispatchSuccess
    else if w < 0x800 then .dselSel
    else .typeW
  else if w = 0x2112A442 then .cookieW
  else if w = 0x400 ∨ w = 0x414 then .wireErrorW
  else .lengthW

/-- The operand a codec selector's bare word is given: zeros (an operand word of zeros). -/
def zeroOperand (sel : BitVec 6) : Datum :=
  if sel = 0b100010#6 then .u16 0
  else if sel = 0b100100#6 then .u32 0
  else if sel = 0b101000#6 then .u64 0
  else if sel = 0b101100#6 then .u96 0
  else if sel = 0b110000#6 then .u128 0
  else .bytes (List.replicate (sel.extractLsb' 0 5).toNat 0#8)

/-- The event a bare word stands for. -/
def tableEvent (nbits w : Nat) : Event :=
  match tableFormat nbits w with
  | .busRead => .read w 4
  | .ctrlWrite => .write 0x004 4 (BitVec.ofNat 32 w)
  | .codecSel => .codec (BitVec.ofNat 6 w) (zeroOperand (BitVec.ofNat 6 w))
  | .dselSel => .builder
  | .dispatchSuccess => .unit .buildSuccess []
  | .wireTypeW => .wireType (BitVec.ofNat 16 w)
  | .wireAttrW => .wireAttr (BitVec.ofNat 16 w)
  | .wireErrorW => .wireError (BitVec.ofNat 32 w)
  | .lengthW => .lengthTest
  | .typeW => .typeTest
  | .cookieW => .cookieTest

/-- What the registers show when a bare word is placed where `step` fetches it in the machine after reset. -/
def tableView (nbits w : Nat) : View :=
  let reset : View := { busy := false, peerFamily := 0, lLen := 0, hType := 0, hCookie := 0, dsel := 0x400#11 }
  match tableFormat nbits w with
  | .dselSel => { reset with
      lLen := if (BitVec.ofNat 11 w).getLsbD 10 then 0#32 else 20#32
      dsel := if (BitVec.ofNat 11 w).extractLsb' 8 2 = 3#2 then BitVec.ofNat 11 w &&& 0x4FF#11 else BitVec.ofNat 11 w }
  | .dispatchSuccess => { reset with lLen := 20#32, dsel := 0x001#11 }
  | .lengthW => { reset with
      lLen := BitVec.ofNat 32 w
      dsel := if (BitVec.ofNat 32 w).toNat < Config.hdrBytes then 0x400#11 else 0x000#11 }
  | .typeW => { reset with hType := BitVec.ofNat 16 w }
  | .cookieW => { reset with hType := Config.typeBindingRequest, hCookie := BitVec.ofNat 32 w }
  | _ => reset

/-- The instruction a bare word of the opcode table decodes to (log entry 14). -/
def decodeTableWord (nbits w : Nat) : Option Instr :=
  match decode (tableView nbits w) (tableEvent nbits w) with
  | .ok i => some i
  | .error _ => none

end Sys2Proof
end

