-- ==== Sys2Proof/Machine/State.lean ====
section
/-! DEFINITION. The state of one SFE instance (10_state.md R20 to R40), its faults and refusals, and the machine after reset. -/

namespace Sys2Proof.Machine

/-- ENG_STATE (10_state.md R38). -/
inductive EngState where
  | idle | busy
  deriving DecidableEq, Repr

/-- VOUT (10_state.md R35, 41_header_validator.md R162). -/
inductive Vout where
  | valid | invalidType | invalidCookie
  deriving DecidableEq, Repr

/-- QUAD[0..3], the four 16-bit slots (10_state.md R35). -/
structure Quad where
  q0 : Half
  q1 : Half
  q2 : Half
  q3 : Half
  deriving DecidableEq, Repr

/-- Why a run stops at a broken precondition. -/
inductive Fault where
  /-- `precondition ShortSlice` (40_codec.md R141): raised by a directly called DEC_U* on a slice of `got` bytes where `need` are
  needed. Safe: the run stops, so nothing is provable of it. The engine never raises it. -/
  | shortSlice (need got : Nat)
  deriving DecidableEq, Repr

/-- Why an event has no meaning. -/
inductive Refusal where
  /-- raised by `exec` for an instruction that has no meaning yet; safe -/
  | notModelled (mnemonic : String)
  /-- raised by `step` when the next event decodes to no instruction, and by ENC_ERROR_CODE and ENC_ERROR_BODY for a code that
  is no operand; `rejected (.hostAccessUndefined off n)` is the spec's `refuse HostAccessUndefined(off, n)` (20_memory.md R65).
  Safe: the run stops. -/
  | rejected (r : Reject)
  /-- raised by BUILD_SUCCESS, and by PROCESS and ENGINE_COMMIT on the Valid path, when the latched family is neither 0x01 nor
  0x02: "No other family reaches it" (42_response_builder.md R210, 30_encoding.md R112). Safe; log entry 9. -/
  | peerFamilyIllegal (family : Byte)
  deriving DecidableEq, Repr

/-- The state of one instance (10_state.md R20). ID is a constant, BUSY a view of `eng`, IRQ a view of the flags; the last five
fields are the model's own (log entries 2, 4, 5, 6). -/
structure State where
  /-- CTRL.IRQ_EN (R22) -/
  irqEn : Bool
  /-- CTRL.OP (R22) -/
  op : BitVec 4
  /-- STATUS.DONE (R23) -/
  done : Bool
  /-- STATUS.ERR_OP (R23) -/
  errOp : Bool
  /-- STATUS.ERR_BUSY (R23) -/
  errBusy : Bool
  /-- STATUS.ERR_FAMILY (R23) -/
  errFamily : Bool
  /-- STATUS.OUTCOME (R23) -/
  outcome : BitVec 4
  /-- IN_LEN (R24) -/
  inLen : Word
  /-- PEER_FAMILY (R25) -/
  peerFamily : Byte
  /-- PEER_PORT (R26) -/
  peerPort : Half
  /-- PEER_ADDR0..3 (R27) -/
  peerAddr : Vector Word 4
  /-- IN_HDR0..4 (R28) -/
  inHdr : Vector Word 5
  /-- OUT_LEN (R29) -/
  outLen : Half
  /-- OUT[0..47], the bytes of OUT_BUF0..11 (R30) -/
  outBuf : Vector Byte 48
  /-- L_LEN (R33) -/
  lLen : Word
  /-- LHDR[0..19] (R33) -/
  lHdr : Vector Byte 20
  /-- L_FAMILY (R33) -/
  lFamily : Byte
  /-- L_PORT (R33) -/
  lPort : Half
  /-- L_ADDR[0..15] (R33) -/
  lAddr : Vector Byte 16
  /-- H_TYPE (R34) -/
  hType : Half
  /-- H_MLEN (R34) -/
  hMlen : Half
  /-- H_COOKIE (R34) -/
  hCookie : Word
  /-- H_TXID (R34) -/
  hTxid : TxId
  /-- VOUT (R35) -/
  vout : Vout
  /-- QUAD (R35) -/
  quad : Quad
  /-- RESP (R36) -/
  resp : List Byte
  /-- RESP_OUTCOME (R36) -/
  respOutcome : BitVec 4
  /-- ENG_STATE (R38) -/
  eng : EngState
  /-- the model's own: the events to come, in their total order, next first (20_memory.md R70; log entry 2) -/
  events : List Event
  /-- the model's own: how many free values have been drawn (20_memory.md R73; log entry 6) -/
  draws : Nat
  /-- the model's own: which stream of free values the instance draws from; instances of a platform have different ones
  (20_memory.md R73, "each read independently"; log entry 6) -/
  stream : Nat
  /-- the model's own: the word the last host read returned (log entry 4) -/
  readData : Word
  /-- the model's own: the result of the last direct call of a datapath block (log entry 5) -/
  unitOut : Datum
  deriving DecidableEq, Repr

/-- The instance right after reset (10_state.md R40), with no event to come. -/
def State.reset : State where
  irqEn := false
  op := 0x1#4
  done := false
  errOp := false
  errBusy := false
  errFamily := false
  outcome := 0x0#4
  inLen := 0#32
  peerFamily := 0x00#8
  peerPort := 0x0000#16
  peerAddr := Vector.replicate 4 0#32
  inHdr := Vector.replicate 5 0#32
  outLen := 0#16
  outBuf := Vector.replicate 48 0#8
  lLen := 0#32
  lHdr := Vector.replicate 20 0#8
  lFamily := 0#8
  lPort := 0#16
  lAddr := Vector.replicate 16 0#8
  hType := 0#16
  hMlen := 0#16
  hCookie := 0#32
  hTxid := 0#96
  vout := .valid
  quad := ⟨0#16, 0#16, 0#16, 0#16⟩
  resp := []
  respOutcome := 0x0#4
  eng := .idle
  events := []
  draws := 0
  stream := 0
  readData := 0#32
  unitOut := .none

/-- The three outcomes of an operation of this machine. -/
abbrev Result := Host.Outcome State Fault Refusal

end Sys2Proof.Machine
end

