-- ==== Sys2Proof/Machine/Operands.lean ====
section
/-! DEFINITION. Operand forms: the byte-width codec (40_codec.md), the packing of byte windows into words (20_memory.md R62), the
register map (10_state.md R31), the XOR address encoder (42_response_builder.md R190 to R193) and the selector DSEL
(30_encoding.md R112). -/

namespace Sys2Proof.Machine

/-! ## Codec -/

/-- The big-endian unsigned value of a whole byte sequence: byte i of n weighs 2^(8*(n-1-i)) (40_codec.md R130). -/
def beValue : List Byte → Nat
  | [] => 0
  | b :: rest => b.toNat * 2 ^ (8 * rest.length) + beValue rest

/-- The n-byte big-endian sequence of a value: byte i is bits 8*(n-1-i)+7 down to 8*(n-1-i) (40_codec.md R130). -/
def beBytes {w : Nat} : Nat → BitVec w → List Byte
  | 0, _ => []
  | n + 1, v => v.extractLsb' (8 * n) 8 :: beBytes n v

/-- DEC_U16 on a slice long enough: the first 2 bytes (40_codec.md R131). -/
def dec16 (s : List Byte) : Half := BitVec.ofNat 16 (beValue (s.take 2))
/-- DEC_U32: the first 4 bytes (40_codec.md R132). -/
def dec32 (s : List Byte) : Word := BitVec.ofNat 32 (beValue (s.take 4))
/-- DEC_U64: the first 8 bytes (40_codec.md R133). -/
def dec64 (s : List Byte) : BitVec 64 := BitVec.ofNat 64 (beValue (s.take 8))
/-- DEC_U96: the first 12 bytes (40_codec.md R134). -/
def dec96 (s : List Byte) : TxId := BitVec.ofNat 96 (beValue (s.take 12))
/-- DEC_U128: the first 16 bytes (40_codec.md R135). -/
def dec128 (s : List Byte) : Quad128 := BitVec.ofNat 128 (beValue (s.take 16))

/-- ENC_U16 (40_codec.md R136). -/
def enc16 (v : Half) : List Byte := beBytes 2 v
/-- ENC_U32 (40_codec.md R137). -/
def enc32 (v : Word) : List Byte := beBytes 4 v
/-- ENC_U64 (40_codec.md R138). -/
def enc64 (v : BitVec 64) : List Byte := beBytes 8 v
/-- ENC_U96 (40_codec.md R139). -/
def enc96 (v : TxId) : List Byte := beBytes 12 v
/-- ENC_U128 (40_codec.md R140). -/
def enc128 (v : Quad128) : List Byte := beBytes 16 v

/-! ## Byte windows and words -/

/-- Byte j (0..3) of a word of a window: bits 31-8j down to 24-8j (20_memory.md R62). -/
def wordByte (w : Word) (j : Nat) : Byte := w.extractLsb' (24 - 8 * j) 8

/-- INWIN[0..19], the bytes of IN_HDR0..4 (10_state.md R28). -/
def inWindow (ws : Vector Word 5) : Vector Byte 20 :=
  Vector.ofFn fun i => wordByte (ws[i.val / 4]'(by omega)) (i.val % 4)

/-- PADDR[0..15], the bytes of PEER_ADDR0..3 (10_state.md R27). -/
def addrWindow (ws : Vector Word 4) : Vector Byte 16 :=
  Vector.ofFn fun i => wordByte (ws[i.val / 4]'(by omega)) (i.val % 4)

/-- Word k of the output window: `dec_32(OUT[4k..4k+4))` (20_memory.md R62, 10_state.md R30). -/
def outWord (out : Vector Byte 48) (k : Fin 12) : Word :=
  dec32 [out[4 * k.val]'(by omega), out[4 * k.val + 1]'(by omega), out[4 * k.val + 2]'(by omega), out[4 * k.val + 3]'(by omega)]

/-! ## The register map -/

/-- The registers of the block (10_state.md R31). -/
inductive Reg where
  | id | ctrl | status | inLen | peerFamily | peerPort | outLen
  | peerAddr (k : Fin 4)
  | inHdr (k : Fin 5)
  | outBuf (k : Fin 12)
  | reserved
  deriving DecidableEq, Repr

/-- The register at a word index (10_state.md R31; index = offset / 4). -/
def regAt (idx : BitVec 6) : Reg :=
  let k := idx.toNat
  if k = 0 then .id
  else if k = 1 then .ctrl
  else if k = 2 then .status
  else if k = 3 then .inLen
  else if k = 4 then .peerFamily
  else if k = 5 then .peerPort
  else if k = 6 then .outLen
  else if h : 8 ≤ k ∧ k < 12 then .peerAddr ⟨k - 8, by omega⟩
  else if h : 16 ≤ k ∧ k < 21 then .inHdr ⟨k - 16, by omega⟩
  else if h : 32 ≤ k ∧ k < 44 then .outBuf ⟨k - 32, by omega⟩
  else .reserved

/-! ## XOR address encoder -/

/-- XOR_PORT (42_response_builder.md R190): hi16 of the cookie. -/
def xorPort (p : Half) : Half := p ^^^ Config.magicCookie.extractLsb' 16 16
/-- XOR_ADDR_V4 (42_response_builder.md R191). -/
def xorAddrV4 (a : Word) : Word := a ^^^ Config.magicCookie
/-- XOR_MASK_V6 (42_response_builder.md R192). -/
def xorMaskV6 (t : TxId) : Quad128 := (Config.magicCookie.setWidth 128 <<< 96) ||| t.setWidth 128
/-- XOR_ADDR_V6 (42_response_builder.md R193). -/
def xorAddrV6 (a : Quad128) (t : TxId) : Quad128 := a ^^^ xorMaskV6 t

/-! ## DSEL -/

/-- The code of VOUT in DSEL[9:8] (30_encoding.md R112). -/
def voutCode : Vout → BitVec 2
  | .valid => 0b00#2
  | .invalidType => 0b01#2
  | .invalidCookie => 0b10#2

/-- The frame is shorter than a header: `L_LEN < 20` (43_request_processor.md R241). -/
def shortFrame (len : Word) : Bool := decide (len.toNat < Config.hdrBytes)

/-- DSEL of the registers (30_encoding.md R112). -/
def dselWord (s : State) : BitVec 11 := BitVec.ofBool (shortFrame s.lLen) ++ voutCode s.vout ++ s.lFamily

/-- What decoding reads of the state. -/
def State.view (s : State) : View where
  busy := s.eng == .busy
  peerFamily := s.peerFamily
  lLen := s.lLen
  hType := s.hType
  hCookie := s.hCookie
  dsel := dselWord s

end Sys2Proof.Machine
end

