-- ==== Sys2Proof/Machine/Flags.lean ====
section
/-! DEFINITION. The status and control words and the interrupt line. The SFE has no arithmetic flags (10_state.md R37); its flags
are the bits of STATUS and CTRL (R22, R23) and the IRQ output (R32). -/

namespace Sys2Proof.Machine

/-- STATUS.BUSY (10_state.md R38). -/
def State.busy (s : State) : Bool := s.eng == .busy

/-- A flag at a bit position of a 32-bit word. -/
def flagBit (b : Bool) (k : Nat) : Word := (BitVec.ofBool b).setWidth 32 <<< k

/-- A read of CTRL: `zext_32(OP << 4 OR IRQ_EN << 2)` (10_state.md R22). -/
def ctrlWord (s : State) : Word := (s.op.setWidth 32 <<< 4) ||| flagBit s.irqEn 2

/-- A read of STATUS whose OUTCOME field shows `o` (10_state.md R23). -/
def statusWord (s : State) (o : BitVec 4) : Word :=
  flagBit s.busy 0 ||| flagBit s.done 1 ||| flagBit s.errOp 2 ||| flagBit s.errBusy 3 ||| flagBit s.errFamily 4
    ||| (o.setWidth 32 <<< 8)

/-- The interrupt line (10_state.md R32, 60_exceptions.md R310). -/
def State.irq (s : State) : Bool := s.irqEn && (s.done || s.errOp || s.errBusy || s.errFamily)

/-- The STATUS write v (44_host_commands.md R279): each 1 in v[4:1] clears its bit. -/
def clearFlags (v : Word) (s : State) : State :=
  { s with
    done := s.done && !v.getLsbD 1
    errOp := s.errOp && !v.getLsbD 2
    errBusy := s.errBusy && !v.getLsbD 3
    errFamily := s.errFamily && !v.getLsbD 4 }

end Sys2Proof.Machine
end

