-- ==== Sys2Proof/Machine/Ops.lean ====
section
/-! DEFINITION. The shared operations: host reads and writes of the register block, the CTRL command rows, reset, the latch, and the
engine's pipeline (header decode, validation, serializers, builders, PROCESS, commit). The SFE has no exceptions and no return
from one (60_exceptions.md R300, R308), so there is no operation for either. -/

namespace Sys2Proof.Machine

/-! ## Host reads -/

/-- A read of this register returns a free value, in whole or in one field, while BUSY (20_memory.md R73). -/
def drawsOnRead (r : Reg) : Bool :=
  match r with
  | .outLen | .status | .outBuf _ => true
  | _ => false

/-- A read of register r draws in state s: it shows a result and BUSY = 1 (20_memory.md R73). -/
def isDrawn (s : State) (r : Reg) : Bool := s.busy && drawsOnRead r

/-- The word the next free value is (20_memory.md R73; log entry 6). -/
def nextDraw (s : State) : Word := Config.freeDraw s.stream s.draws

/-- The word a host read of register r returns (44_host_commands.md R270, 10_state.md R21 to R31). While BUSY the OUTCOME field,
OUT_LEN[15:0] and OUT_BUF are drawn freely; fixed and reserved bits stay as the register map says (log entry 7). -/
def readReg (s : State) (r : Reg) : Word :=
  match r with
  | .id => Config.idValue
  | .ctrl => ctrlWord s
  | .status => statusWord s (if s.busy then (nextDraw s).extractLsb' 0 4 else s.outcome)
  | .inLen => s.inLen
  | .peerFamily => s.peerFamily.setWidth 32
  | .peerPort => s.peerPort.setWidth 32
  | .outLen => (if s.busy then (nextDraw s).extractLsb' 0 16 else s.outLen).setWidth 32
  | .peerAddr k => s.peerAddr[k]
  | .inHdr k => s.inHdr[k]
  | .outBuf k => if s.busy then nextDraw s else outWord s.outBuf k
  | .reserved => 0#32

/-- A host read: the word goes to the host; only a draw is counted (20_memory.md R67; log entries 4, 6). -/
def hostRead (r : Reg) (s : State) : State :=
  { s with readData := readReg s r, draws := s.draws + (if isDrawn s r then 1 else 0) }

/-! ## Host writes to data registers -/

/-- A write of v to a data register, restricted to its defined bits; any other register keeps its value (44_host_commands.md
R271, R280). CTRL and STATUS writes are commands and come elsewhere. -/
def writeReg (r : Reg) (v : Word) (s : State) : State :=
  match r with
  | .inLen => { s with inLen := v }
  | .peerFamily => { s with peerFamily := v.extractLsb' 0 8 }
  | .peerPort => { s with peerPort := v.extractLsb' 0 16 }
  | .peerAddr k => { s with peerAddr := s.peerAddr.set k v }
  | .inHdr k => { s with inHdr := s.inHdr.set k v }
  | _ => s

/-! ## Reset -/

/-- Reset, by RST or SOFT_RESET: every piece of state of the instance takes its reset value (70_reset_and_hazards.md R340). What
is not the instance's stays: the events to come, the draws made and their stream, the host's last word, the model's result port (log entry 8). -/
def resetInstance (s : State) : State :=
  { State.reset with events := s.events, draws := s.draws, stream := s.stream, readData := s.readData, unitOut := s.unitOut }

/-! ## CTRL writes -/

/-- The stored fields of a CTRL write (44_host_commands.md R272). -/
def storeCtrl (v : Word) (s : State) : State :=
  { s with irqEn := v.getLsbD 2, op := v.extractLsb' 4 4 }

/-- START while BUSY: ERR_BUSY (44_host_commands.md R275). -/
def refuseBusy (v : Word) (s : State) : State := { storeCtrl v s with errBusy := true }

/-- START with a reserved OP: ERR_OP (44_host_commands.md R276). -/
def refuseOp (v : Word) (s : State) : State := { storeCtrl v s with errOp := true }

/-- START with an illegal peer family: ERR_FAMILY (44_host_commands.md R277). -/
def refuseFamily (v : Word) (s : State) : State := { storeCtrl v s with errFamily := true }

/-- The latch takes the input registers (10_state.md R33, 20_memory.md R71). -/
def takeLatch (s : State) : State :=
  { s with
    lLen := s.inLen
    lHdr := inWindow s.inHdr
    lFamily := s.peerFamily
    lPort := s.peerPort
    lAddr := addrWindow s.peerAddr }

/-- An accepted START (44_host_commands.md R274). -/
def acceptStart (v : Word) (s : State) : State :=
  { takeLatch (storeCtrl v s) with done := false, eng := .busy }

/-- The effect of a CTRL write's row. -/
def ctrlEffect (row : CtrlRow) (v : Word) (s : State) : State :=
  match row with
  | .softReset => resetInstance s
  | .startBusy => refuseBusy v s
  | .startReservedOp => refuseOp v s
  | .startBadFamily => refuseFamily v s
  | .process => acceptStart v s
  | .config => storeCtrl v s

/-- A write of v to CTRL: the first matching row (30_encoding.md R110, 44_host_commands.md R272, 60_exceptions.md R307). -/
def ctrlWrite (v : Word) (s : State) : State := ctrlEffect (ctrlRow v s.busy s.peerFamily) v s

/-- A CTRL_WR row's own effect where the state selects that row; a write of v whose first matching row is another acts as that
row (30_encoding.md R110; log entry 11). -/
def asCtrlRow (row : CtrlRow) (v : Word) (effect : State → State) (s : State) : State :=
  if ctrlRow v s.busy s.peerFamily = row then effect s else ctrlWrite v s

/-- Any defined host write, by its word index (30_encoding.md R110, the sentence after the table). -/
def hostWrite (idx : BitVec 6) (v : Word) (s : State) : State :=
  match regAt idx with
  | .ctrl => ctrlWrite v s
  | .status => clearFlags v s
  | r => writeReg r v s

/-! ## Header decode and validation -/

/-- DECODE_HEADER (41_header_validator.md R160). -/
def decodeHeader (s : State) : State :=
  { s with
    hType := dec16 s.lHdr.toList
    hMlen := dec16 (s.lHdr.toList.drop 2)
    hCookie := dec32 (s.lHdr.toList.drop 4)
    hTxid := dec96 (s.lHdr.toList.drop 8) }

/-- InvalidType and its quadruple (41_header_validator.md R165). -/
def setInvalidType (s : State) : State :=
  { s with vout := .invalidType, quad := ⟨s.hType, 0#16, 0#16, 0#16⟩ }

/-- InvalidCookie and its quadruple (41_header_validator.md R166). -/
def setInvalidCookie (s : State) : State :=
  { s with vout := .invalidCookie, quad := ⟨s.hCookie.extractLsb' 16 16, s.hCookie.extractLsb' 0 16, 0#16, 0#16⟩ }

/-- Valid (41_header_validator.md R167). -/
def setValid (s : State) : State := { s with vout := .valid, quad := ⟨0#16, 0#16, 0#16, 0#16⟩ }

/-- VALIDATE's second test, the cookie (41_header_validator.md R163). -/
def validateCookie (s : State) : State :=
  if s.hCookie ≠ Config.magicCookie then setInvalidCookie s else setValid s

/-- VALIDATE: the type, then the cookie (41_header_validator.md R163, R164). -/
def validate (s : State) : State :=
  if s.hType ≠ Config.typeBindingRequest then setInvalidType s else validateCookie s

/-! ## Serializers -/

/-- `zeros(n)` (00_scope.md R10). -/
def zeros (n : Nat) : List Byte := List.replicate n 0x00#8

/-- ENC_HEADER (42_response_builder.md R195). -/
def encHeader (ty ml : Half) (t : TxId) : List Byte := enc16 ty ++ enc16 ml ++ enc32 Config.magicCookie ++ enc96 t

/-- ENC_ATTR_HEADER (42_response_builder.md R196). -/
def encAttrHeader (ty al : Half) : List Byte := enc16 ty ++ enc16 al

/-- ENC_ADDR_BODY_V4 (42_response_builder.md R197). -/
def encAddrBodyV4 (p : Half) (a : Word) : List Byte :=
  [0x00#8, Config.familyV4] ++ enc16 (xorPort p) ++ enc32 (xorAddrV4 a)

/-- ENC_ADDR_BODY_V6 (42_response_builder.md R198). -/
def encAddrBodyV6 (p : Half) (a : Quad128) (t : TxId) : List Byte :=
  [0x00#8, Config.familyV6] ++ enc16 (xorPort p) ++ enc128 (xorAddrV6 a t)

/-- ENC_ERROR_CODE: class and number (42_response_builder.md R199, 30_encoding.md R102). -/
def encErrorCode (c : Nat) : List Byte := [0x00#8, 0x00#8, BitVec.ofNat 8 (c / 100), BitVec.ofNat 8 (c % 100)]

/-- PAD_REASON (42_response_builder.md R200, 30_encoding.md R103). -/
def padReason (r : List Byte) : List Byte := r ++ zeros ((4 - r.length % 4) % 4)

/-- ENC_ERROR_BODY (42_response_builder.md R201). -/
def encErrorBody (c : Nat) (r : List Byte) : List Byte := encErrorCode c ++ padReason r

/-- ENC_UNKNOWN_BODY (42_response_builder.md R202). -/
def encUnknownBody (q : Quad) : List Byte := encErrorCode 420 ++ enc16 q.q0 ++ enc16 q.q1 ++ enc16 q.q2 ++ enc16 q.q3

/-- A length as a 16-bit field, counted from the serialized bytes (42_response_builder.md R221). -/
def lengthField (s : List Byte) : Half := BitVec.ofNat 16 s.length

/-- An attribute: its header, with the length of its body, then the body (30_encoding.md R96). -/
def attrOf (ty : Half) (body : List Byte) : List Byte := encAttrHeader ty (lengthField body) ++ body

/-- A frame: its header, with the length of its one attribute, then the attribute (30_encoding.md R90). -/
def frameOf (ty : Half) (t : TxId) (attr : List Byte) : List Byte := encHeader ty (lengthField attr) t ++ attr

/-! ## Builders -/

/-- BUILD_ERROR(c, r, t), the general form (42_response_builder.md R215). -/
def errorFrame (c : Nat) (r : List Byte) (t : TxId) : List Byte :=
  frameOf Config.typeError t (attrOf Config.attrErrorCode (encErrorBody c r))

/-- The success frame for an IPv4 peer (42_response_builder.md R211). -/
def successFrameV4 (p : Half) (a : Word) (t : TxId) : List Byte :=
  frameOf Config.typeSuccess t (attrOf Config.attrXorMapped (encAddrBodyV4 p a))

/-- The success frame for an IPv6 peer (42_response_builder.md R212). -/
def successFrameV6 (p : Half) (a : Quad128) (t : TxId) : List Byte :=
  frameOf Config.typeSuccess t (attrOf Config.attrXorMapped (encAddrBodyV6 p a t))

/-- The 420 frame (42_response_builder.md R218). -/
def unknownFrame (q : Quad) (t : TxId) : List Byte :=
  frameOf Config.typeError t (attrOf Config.attrUnknown (encUnknownBody q))

/-- A builder's result goes to RESP and RESP_OUTCOME and nowhere else (42_response_builder.md R222). -/
def respond (frame : List Byte) (o : BitVec 4) (s : State) : State := { s with resp := frame, respOutcome := o }

/-- BUILD_ERROR as the SFE calls it (42_response_builder.md R215). -/
def buildError (s : State) : State := respond (errorFrame 400 Config.badRequest 0#96) Config.outcomeErr400 s

/-- BUILD_ERROR420 after InvalidType (42_response_builder.md R218). -/
def buildError420Type (s : State) : State := respond (unknownFrame s.quad s.hTxid) Config.outcomeErr420Type s

/-- BUILD_ERROR420 after InvalidCookie (42_response_builder.md R218). -/
def buildError420Cookie (s : State) : State := respond (unknownFrame s.quad s.hTxid) Config.outcomeErr420Cookie s

/-- BUILD_SUCCESS_V4: the address is `DEC_U32(L_ADDR[0..4))` (42_response_builder.md R211). -/
def buildSuccessV4 (s : State) : State :=
  respond (successFrameV4 s.lPort (dec32 s.lAddr.toList) s.hTxid) Config.outcomeSuccessV4 s

/-- BUILD_SUCCESS_V6: the address is `DEC_U128(L_ADDR[0..16))` (42_response_builder.md R212). -/
def buildSuccessV6 (s : State) : State :=
  respond (successFrameV6 s.lPort (dec128 s.lAddr.toList) s.hTxid) Config.outcomeSuccessV6 s

/-- BUILD_SUCCESS: the branch of the latched family; no other family reaches it (42_response_builder.md R210; log entry 9). -/
def buildSuccess (s : State) : Result :=
  if s.lFamily = Config.familyV4 then .next (buildSuccessV4 s)
  else if s.lFamily = Config.familyV6 then .next (buildSuccessV6 s)
  else .refused (.peerFamilyIllegal s.lFamily)

/-! ## The engine -/

/-- PROCESS, the five steps in the source's order (43_request_processor.md R240). -/
def process (s : State) : Result :=
  if shortFrame s.lLen then .next (buildError s)
  else
    let t := validate (decodeHeader s)
    match t.vout with
    | .valid => buildSuccess t
    | .invalidType => .next (buildError420Type t)
    | .invalidCookie => .next (buildError420Cookie t)

/-- The commit of RESP: OUT, zeroed past the frame, OUT_LEN, OUTCOME, DONE, IDLE, in one event (43_request_processor.md R249,
20_memory.md R72). -/
def commit (s : State) : State :=
  { s with
    outBuf := Vector.ofFn fun i => s.resp.getD i.val 0x00#8
    outLen := lengthField s.resp
    outcome := s.respOutcome
    done := true
    eng := .idle }

/-- The engine's turn: PROCESS and its commit while BUSY (43_request_processor.md R249); an IDLE instance holds all its state
(60_exceptions.md R314; log entry 3). -/
def engineTurn (s : State) : Result :=
  match s.eng with
  | .idle => .next s
  | .busy =>
    match process s with
    | .next t => .next (commit t)
    | .fault f => .fault f
    | .refused r => .refused r

/-! ## Direct calls of datapath blocks -/

/-- A directly called block's result goes to the model's result port and nowhere else (40_codec.md R130, 42_response_builder.md
R222; log entry 5). -/
def returnUnit (d : Datum) (s : State) : State := { s with unitOut := d }

/-- A directly called decode of n bytes: its value, or `precondition ShortSlice` (40_codec.md R141). -/
def returnDecode (n : Nat) (src : List Byte) (d : Datum) (s : State) : Result :=
  if src.length < n then .fault (.shortSlice n src.length) else .next (returnUnit d s)

/-- A directly called serializer of an error code: a code outside 300..699 is no operand (42_response_builder.md R199). -/
def returnForCode (c : Nat) (d : Datum) (s : State) : Result :=
  if isErrorCode c then .next (returnUnit d s) else .refused (.rejected (.operandRange c))

end Sys2Proof.Machine
end

