-- ==== Sys2Proof/Machine/Builder.lean ====
section
/-! DEFINITION. The meanings of the Response Builder's operations: the rows of formats DSEL and BUILDER_SUBOP
(42_response_builder.md). The builders read only their operands and write only RESP and RESP_OUTCOME, whatever DSEL shows (R222;
log entry 12). -/

namespace Sys2Proof.Machine

/-- BUILD_ERROR (R215). -/
def execBuildError (s : State) : Result := .next (buildError s)

/-- BUILD_ERROR420 after InvalidType (R218). -/
def execBuildError420Type (s : State) : Result := .next (buildError420Type s)

/-- BUILD_ERROR420 after InvalidCookie (R218). -/
def execBuildError420Cookie (s : State) : Result := .next (buildError420Cookie s)

/-- BUILD_SUCCESS_V4 (R211). -/
def execBuildSuccessV4 (s : State) : Result := .next (buildSuccessV4 s)

/-- BUILD_SUCCESS_V6 (R212). -/
def execBuildSuccessV6 (s : State) : Result := .next (buildSuccessV6 s)

/-- BUILD_SUCCESS (R210). -/
def execBuildSuccess (s : State) : Result := buildSuccess s

/-- XOR_PORT (R190). -/
def execXorPort (p : Half) (s : State) : Result := .next (returnUnit (.u16 (xorPort p)) s)

/-- XOR_ADDR_V4 (R191). -/
def execXorAddrV4 (a : Word) (s : State) : Result := .next (returnUnit (.u32 (xorAddrV4 a)) s)

/-- XOR_MASK_V6 (R192). -/
def execXorMaskV6 (t : TxId) (s : State) : Result := .next (returnUnit (.u128 (xorMaskV6 t)) s)

/-- XOR_ADDR_V6 (R193). -/
def execXorAddrV6 (a : Quad128) (t : TxId) (s : State) : Result := .next (returnUnit (.u128 (xorAddrV6 a t)) s)

/-- ENC_HEADER (R195). -/
def execEncHeader (ty ml : Half) (t : TxId) (s : State) : Result := .next (returnUnit (.bytes (encHeader ty ml t)) s)

/-- ENC_ATTR_HEADER (R196). -/
def execEncAttrHeader (ty al : Half) (s : State) : Result := .next (returnUnit (.bytes (encAttrHeader ty al)) s)

/-- ENC_ADDR_BODY_V4 (R197). -/
def execEncAddrBodyV4 (p : Half) (a : Word) (s : State) : Result := .next (returnUnit (.bytes (encAddrBodyV4 p a)) s)

/-- ENC_ADDR_BODY_V6 (R198). -/
def execEncAddrBodyV6 (p : Half) (a : Quad128) (t : TxId) (s : State) : Result :=
  .next (returnUnit (.bytes (encAddrBodyV6 p a t)) s)

/-- ENC_ERROR_CODE (R199). -/
def execEncErrorCode (c : Nat) (s : State) : Result := returnForCode c (.bytes (encErrorCode c)) s

/-- PAD_REASON (R200). -/
def execPadReason (r : List Byte) (s : State) : Result := .next (returnUnit (.bytes (padReason r)) s)

/-- ENC_ERROR_BODY (R201). -/
def execEncErrorBody (c : Nat) (r : List Byte) (s : State) : Result := returnForCode c (.bytes (encErrorBody c r)) s

/-- ENC_UNKNOWN_BODY (R202). -/
def execEncUnknownBody (q0 q1 q2 q3 : Half) (s : State) : Result :=
  .next (returnUnit (.bytes (encUnknownBody ⟨q0, q1, q2, q3⟩)) s)

end Sys2Proof.Machine
end

