-- ==== Sys2Proof/Machine/Codec.lean ====
section
/-! DEFINITION. The meanings of the ten codec operations (40_codec.md R131 to R140), called directly: the rows of format CODEC_SEL.
They write no flag and no register (R130). -/

namespace Sys2Proof.Machine

/-- DEC_U16 (R131). -/
def execDecU16 (src : List Byte) (s : State) : Result := returnDecode 2 src (.u16 (dec16 src)) s
/-- DEC_U32 (R132). -/
def execDecU32 (src : List Byte) (s : State) : Result := returnDecode 4 src (.u32 (dec32 src)) s
/-- DEC_U64 (R133). -/
def execDecU64 (src : List Byte) (s : State) : Result := returnDecode 8 src (.u64 (dec64 src)) s
/-- DEC_U96 (R134). -/
def execDecU96 (src : List Byte) (s : State) : Result := returnDecode 12 src (.u96 (dec96 src)) s
/-- DEC_U128 (R135). -/
def execDecU128 (src : List Byte) (s : State) : Result := returnDecode 16 src (.u128 (dec128 src)) s
/-- ENC_U16 (R136). -/
def execEncU16 (v : Half) (s : State) : Result := .next (returnUnit (.bytes (enc16 v)) s)
/-- ENC_U32 (R137). -/
def execEncU32 (v : Word) (s : State) : Result := .next (returnUnit (.bytes (enc32 v)) s)
/-- ENC_U64 (R138). -/
def execEncU64 (v : BitVec 64) (s : State) : Result := .next (returnUnit (.bytes (enc64 v)) s)
/-- ENC_U96 (R139). -/
def execEncU96 (v : TxId) (s : State) : Result := .next (returnUnit (.bytes (enc96 v)) s)
/-- ENC_U128 (R140). -/
def execEncU128 (v : Quad128) (s : State) : Result := .next (returnUnit (.bytes (enc128 v)) s)

end Sys2Proof.Machine
end

