-- ==== Sys2Proof/Machine/Engine.lean ====
section
/-! DEFINITION. The meanings of the engine's operations: the rows of formats ENGINE_STEP, IN_LEN, HDR, HDR_TYPE and HDR_COOKIE
(43_request_processor.md, 41_header_validator.md). The RX_* rows are the arms of PROCESS's length test and of VALIDATE; a row the
registers do not select acts as the row they do (log entry 10). -/

namespace Sys2Proof.Machine

/-- PROCESS's length test and the step it selects: the 400 path, or the header decode (R240 steps 1 and 2, R241, R242). -/
def lengthTest (s : State) : State := if shortFrame s.lLen then buildError s else decodeHeader s

/-- ENGINE_COMMIT (R249). -/
def execEngineCommit (s : State) : Result := engineTurn s

/-- PROCESS (R240), without the commit. -/
def execProcess (s : State) : Result := process s

/-- RX_SHORT_0_15 (R241): L_LEN in 0..15 selects the 400 path. -/
def execRxShort0to15 (s : State) : Result :=
  .next (if s.lLen.toNat ≤ 15 then buildError s else lengthTest s)

/-- RX_SHORT_16_19 (R241): L_LEN in 16..19 selects the 400 path. -/
def execRxShort16to19 (s : State) : Result :=
  .next (if 16 ≤ s.lLen.toNat ∧ s.lLen.toNat ≤ 19 then buildError s else lengthTest s)

/-- RX_FULL_HEADER (R242): L_LEN >= 20 goes on to the header decode. -/
def execRxFullHeader (s : State) : Result :=
  .next (if 20 ≤ s.lLen.toNat then decodeHeader s else lengthTest s)

/-- DECODE_HEADER (R160). -/
def execDecodeHeader (s : State) : Result := .next (decodeHeader s)

/-- VALIDATE (R163). -/
def execValidate (s : State) : Result := .next (validate s)

/-- RX_BINDING_REQUEST (R163, R167): the type test passes and VALIDATE goes on to the cookie test. -/
def execRxBindingRequest (s : State) : Result :=
  .next (if s.hType = Config.typeBindingRequest then validateCookie s else validate s)

/-- RX_OTHER_TYPE (R165). -/
def execRxOtherType (s : State) : Result :=
  .next (if s.hType ≠ Config.typeBindingRequest then setInvalidType s else validate s)

/-- RX_COOKIE_OK (R167), tested only after RX_BINDING_REQUEST. -/
def execRxCookieOk (s : State) : Result :=
  .next (if s.hType = Config.typeBindingRequest ∧ s.hCookie = Config.magicCookie then setValid s else validate s)

/-- RX_COOKIE_BAD (R166), tested only after RX_BINDING_REQUEST. -/
def execRxCookieBad (s : State) : Result :=
  .next (if s.hType = Config.typeBindingRequest ∧ s.hCookie ≠ Config.magicCookie then setInvalidCookie s else validate s)

end Sys2Proof.Machine
end

