-- ==== Sys2Proof/Machine/HostCommands.lean ====
section
/-! DEFINITION. The meanings of the host's accesses and commands: the rows of formats BUS_READ, BUS_WRITE, CTRL_WR and STATUS_WR
(44_host_commands.md). -/

namespace Sys2Proof.Machine

/-- HOST_RD (R270): no side effect (R67); a result register read while BUSY is drawn (R73). -/
def execHostRd (idx : BitVec 6) (s : State) : Result := .next (hostRead (regAt idx) s)

/-- HOST_WR (R271): a data register takes v, restricted to its defined bits. -/
def execHostWr (idx : BitVec 6) (v : Word) (s : State) : Result :=
  .next (if isDataIndex idx then writeReg (regAt idx) v s else hostWrite idx v s)

/-- HOST_WR_IGNORED (R280): a write to ID, OUT_LEN, OUT_BUF or a reserved offset changes nothing. -/
def execHostWrIgnored (idx : BitVec 6) (v : Word) (s : State) : Result :=
  .next (if isDataIndex idx || isCommandIndex idx then hostWrite idx v s else s)

/-- CMD_SOFT_RESET (R273): exactly as hardware reset; the other bits of v are discarded. -/
def execCmdSoftReset (v : Word) (s : State) : Result := .next (asCtrlRow .softReset v resetInstance s)

/-- START_BUSY (R275): ERR_BUSY and the stored fields; the PROCESS in flight goes on. -/
def execStartBusy (v : Word) (s : State) : Result := .next (asCtrlRow .startBusy v (refuseBusy v) s)

/-- START_RESERVED_OP (R276): ERR_OP and the stored fields; no latch. -/
def execStartReservedOp (v : Word) (s : State) : Result := .next (asCtrlRow .startReservedOp v (refuseOp v) s)

/-- START_BAD_FAMILY (R277): ERR_FAMILY and the stored fields; no latch. -/
def execStartBadFamily (v : Word) (s : State) : Result := .next (asCtrlRow .startBadFamily v (refuseFamily v) s)

/-- CMD_PROCESS, an accepted START (R274): the latch is taken, DONE cleared, BUSY set, in one event. -/
def execCmdProcess (v : Word) (s : State) : Result := .next (asCtrlRow .process v (acceptStart v) s)

/-- CTRL_CONFIG (R278): IRQ_EN and OP are stored. -/
def execCtrlConfig (v : Word) (s : State) : Result := .next (asCtrlRow .config v (storeCtrl v) s)

/-- STATUS_W1C (R279). -/
def execStatusW1c (v : Word) (s : State) : Result := .next (clearFlags v s)

end Sys2Proof.Machine
end

