-- ==== Sys2Proof/Machine/Wire.lean ====
section
/-! DEFINITION. The meanings of the code points the builders emit: the rows of formats WIRE_MESSAGE_TYPE, WIRE_ATTRIBUTE_TYPE,
WIRE_FAMILY and WIRE_ERROR_CODE (30_encoding.md R92, R97, R100, R102). Called directly, each emits its field's bytes, big-endian
(20_memory.md R61; log entry 13). -/

namespace Sys2Proof.Machine

/-- TX_SUCCESS_RESPONSE (R92). -/
def execTxSuccessResponse (s : State) : Result := .next (returnUnit (.bytes (enc16 Config.typeSuccess)) s)
/-- TX_ERROR_RESPONSE (R92). -/
def execTxErrorResponse (s : State) : Result := .next (returnUnit (.bytes (enc16 Config.typeError)) s)
/-- ATTR_XOR_MAPPED_ADDRESS (R97). -/
def execAttrXorMappedAddress (s : State) : Result := .next (returnUnit (.bytes (enc16 Config.attrXorMapped)) s)
/-- ATTR_ERROR_CODE (R97). -/
def execAttrErrorCode (s : State) : Result := .next (returnUnit (.bytes (enc16 Config.attrErrorCode)) s)
/-- ATTR_UNKNOWN_ATTRIBUTES (R97). -/
def execAttrUnknownAttributes (s : State) : Result := .next (returnUnit (.bytes (enc16 Config.attrUnknown)) s)
/-- FAMILY_IPV4 (R100). -/
def execFamilyIpv4 (s : State) : Result := .next (returnUnit (.bytes [Config.familyV4]) s)
/-- FAMILY_IPV6 (R100). -/
def execFamilyIpv6 (s : State) : Result := .next (returnUnit (.bytes [Config.familyV6]) s)
/-- ERRCODE_400 (R102). -/
def execErrcode400 (s : State) : Result := .next (returnUnit (.bytes (encErrorCode 400)) s)
/-- ERRCODE_420 (R102). -/
def execErrcode420 (s : State) : Result := .next (returnUnit (.bytes (encErrorCode 420)) s)

end Sys2Proof.Machine
end

