-- ==== Sys2Proof/Machine/Dispatch.lean ====
section
/-! DEFINITION. The dispatch: one arm per constructor of Instr, in the opcode table's order. -/

namespace Sys2Proof.Machine

def exec (i : Instr) (s : State) : Host.Outcome State Fault Refusal :=
  match i with
  | .hostRd idx => Sys2Proof.Machine.execHostRd idx s
  | .hostWr idx v => Sys2Proof.Machine.execHostWr idx v s
  | .hostWrIgnored idx v => Sys2Proof.Machine.execHostWrIgnored idx v s
  | .cmdSoftReset v => Sys2Proof.Machine.execCmdSoftReset v s
  | .startBusy v => Sys2Proof.Machine.execStartBusy v s
  | .startReservedOp v => Sys2Proof.Machine.execStartReservedOp v s
  | .startBadFamily v => Sys2Proof.Machine.execStartBadFamily v s
  | .cmdProcess v => Sys2Proof.Machine.execCmdProcess v s
  | .ctrlConfig v => Sys2Proof.Machine.execCtrlConfig v s
  | .statusW1c v => Sys2Proof.Machine.execStatusW1c v s
  | .engineCommit => Sys2Proof.Machine.execEngineCommit s
  | .process => Sys2Proof.Machine.execProcess s
  | .rxShort0to15 => Sys2Proof.Machine.execRxShort0to15 s
  | .rxShort16to19 => Sys2Proof.Machine.execRxShort16to19 s
  | .rxFullHeader => Sys2Proof.Machine.execRxFullHeader s
  | .decodeHeader => Sys2Proof.Machine.execDecodeHeader s
  | .validate => Sys2Proof.Machine.execValidate s
  | .rxBindingRequest => Sys2Proof.Machine.execRxBindingRequest s
  | .rxOtherType => Sys2Proof.Machine.execRxOtherType s
  | .rxCookieOk => Sys2Proof.Machine.execRxCookieOk s
  | .rxCookieBad => Sys2Proof.Machine.execRxCookieBad s
  | .buildError => Sys2Proof.Machine.execBuildError s
  | .buildError420Type => Sys2Proof.Machine.execBuildError420Type s
  | .buildError420Cookie => Sys2Proof.Machine.execBuildError420Cookie s
  | .buildSuccessV4 => Sys2Proof.Machine.execBuildSuccessV4 s
  | .buildSuccessV6 => Sys2Proof.Machine.execBuildSuccessV6 s
  | .buildSuccess => Sys2Proof.Machine.execBuildSuccess s
  | .xorPort p => Sys2Proof.Machine.execXorPort p s
  | .xorAddrV4 a => Sys2Proof.Machine.execXorAddrV4 a s
  | .xorMaskV6 t => Sys2Proof.Machine.execXorMaskV6 t s
  | .xorAddrV6 a t => Sys2Proof.Machine.execXorAddrV6 a t s
  | .encHeader ty ml t => Sys2Proof.Machine.execEncHeader ty ml t s
  | .encAttrHeader ty al => Sys2Proof.Machine.execEncAttrHeader ty al s
  | .encAddrBodyV4 p a => Sys2Proof.Machine.execEncAddrBodyV4 p a s
  | .encAddrBodyV6 p a t => Sys2Proof.Machine.execEncAddrBodyV6 p a t s
  | .encErrorCode c => Sys2Proof.Machine.execEncErrorCode c s
  | .padReason r => Sys2Proof.Machine.execPadReason r s
  | .encErrorBody c r => Sys2Proof.Machine.execEncErrorBody c r s
  | .encUnknownBody q0 q1 q2 q3 => Sys2Proof.Machine.execEncUnknownBody q0 q1 q2 q3 s
  | .decU16 src => Sys2Proof.Machine.execDecU16 src s
  | .decU32 src => Sys2Proof.Machine.execDecU32 src s
  | .decU64 src => Sys2Proof.Machine.execDecU64 src s
  | .decU96 src => Sys2Proof.Machine.execDecU96 src s
  | .decU128 src => Sys2Proof.Machine.execDecU128 src s
  | .encU16 v => Sys2Proof.Machine.execEncU16 v s
  | .encU32 v => Sys2Proof.Machine.execEncU32 v s
  | .encU64 v => Sys2Proof.Machine.execEncU64 v s
  | .encU96 v => Sys2Proof.Machine.execEncU96 v s
  | .encU128 v => Sys2Proof.Machine.execEncU128 v s
  | .txSuccessResponse => Sys2Proof.Machine.execTxSuccessResponse s
  | .txErrorResponse => Sys2Proof.Machine.execTxErrorResponse s
  | .attrXorMappedAddress => Sys2Proof.Machine.execAttrXorMappedAddress s
  | .attrErrorCode => Sys2Proof.Machine.execAttrErrorCode s
  | .attrUnknownAttributes => Sys2Proof.Machine.execAttrUnknownAttributes s
  | .familyIpv4 => Sys2Proof.Machine.execFamilyIpv4 s
  | .familyIpv6 => Sys2Proof.Machine.execFamilyIpv6 s
  | .errcode400 => Sys2Proof.Machine.execErrcode400 s
  | .errcode420 => Sys2Proof.Machine.execErrcode420 s

end Sys2Proof.Machine
end

