-- ==== Sys2Proof/Machine/Step.lean ====
section
/-! DEFINITION. One step of an instance: the next event of the total order (20_memory.md R70), or, when none is to come, the
engine's turn (43_request_processor.md R249; log entry 2). -/

namespace Sys2Proof.Machine

/-- One step. RST resets (70_reset_and_hazards.md R340); every other event is decoded against the registers and executed, and one
that decodes to no instruction is refused by name. With no event to come the engine has its turn, so an engine that is BUSY
commits (weak fairness, 70_reset_and_hazards.md R350) and an idle instance holds its state (60_exceptions.md R314). -/
def step (s : State) : Host.Outcome State Fault Refusal :=
  match s.events with
  | [] => exec .engineCommit s
  | .rst :: rest => .next (resetInstance { s with events := rest })
  | e :: rest =>
    match decode s.view e with
    | .ok i => exec i { s with events := rest }
    | .error r => .refused (.rejected r)

/-- The VOUT a DSEL word asks for (30_encoding.md R112); 11 never occurs and is read as Valid. -/
def voutOfCode (c : BitVec 2) : Vout :=
  if c = 0b01#2 then .invalidType else if c = 0b10#2 then .invalidCookie else .valid

/-- The state in which the next `step` fetches and runs the opcode table's bare word `w`: its event comes next, and the register
the word is matched on holds it (log entries 14, 15). -/
def State.withFetchWord (s : State) (nbits w : Nat) : State :=
  let t : State := { s with events := tableEvent nbits w :: s.events }
  match tableFormat nbits w with
  | .dselSel => { t with
      lLen := if (BitVec.ofNat 11 w).getLsbD 10 then 0#32 else 20#32
      vout := voutOfCode ((BitVec.ofNat 11 w).extractLsb' 8 2)
      lFamily := (BitVec.ofNat 11 w).extractLsb' 0 8 }
  | .dispatchSuccess => { t with lLen := 20#32, vout := .valid, lFamily := Config.familyV4 }
  | .lengthW => { t with lLen := BitVec.ofNat 32 w }
  | .typeW => { t with hType := BitVec.ofNat 16 w }
  | .cookieW => { t with hType := Config.typeBindingRequest, hCookie := BitVec.ofNat 32 w }
  | _ => t

end Sys2Proof.Machine
end

