-- ==== Sys2Proof/Machine/Platform.lean ====
section
/-! DEFINITION. Several instances side by side (60_exceptions.md R313, 20_memory.md R77): N_ENGINES, BASE_k and the interrupt
wiring IRQ_ROUTE are the model arguments of 00_scope.md R8. Log entry 1. -/

namespace Sys2Proof.Machine

/-- The size of a register block in bytes (00_scope.md R8). -/
def blockBytes : Nat := 0x100

/-- A platform: instance k is `engines[k]`. -/
structure Platform where
  /-- BASE_k: where instance k's register block starts (00_scope.md R8) -/
  bases : List Nat
  /-- IRQ_ROUTE: a pair (k, n) where instance k's IRQ line goes to input n of the host's interrupts, any number of pairs for one line
  or one input (00_scope.md R8, 60_exceptions.md R310, D15) -/
  irqRoute : List (Nat × Nat)
  engines : List State
  deriving DecidableEq, Repr

/-- What reaches a platform: a host access at an absolute address, an instance's turn to step, or the common reset. -/
inductive PlatformEvent where
  | read (addr n : Nat)
  | write (addr n : Nat) (v : Word)
  | turn (k : Nat)
  | rst
  deriving DecidableEq, Repr

/-- No two register blocks overlap (60_exceptions.md R313). -/
abbrev disjointBases (bases : List Nat) : Prop := bases.Pairwise fun a b => a + blockBytes ≤ b ∨ b + blockBytes ≤ a

/-- A platform has at least one instance, a base for each, and no two blocks overlap (00_scope.md R8, 60_exceptions.md R313); its wires
come from its instances; and no two instances draw free values from one stream (20_memory.md R73; log entry 6). -/
def platformWf (p : Platform) : Bool :=
  decide (1 ≤ p.engines.length) && p.bases.length == p.engines.length && decide (disjointBases p.bases)
    && p.irqRoute.all (fun r => decide (r.1 < p.engines.length)) && decide (p.engines.map State.stream).Nodup

/-- The platform of these arguments right after reset: an instance for each base, each with its own stream of free values. -/
def Platform.reset (bases : List Nat) (irqRoute : List (Nat × Nat)) : Platform where
  bases := bases
  irqRoute := irqRoute
  engines := (List.range bases.length).map fun k => { State.reset with stream := k }

/-- The level of instance k's IRQ line (10_state.md R32). -/
def irqLevel (p : Platform) (k : Nat) : Bool :=
  match p.engines[k]? with
  | none => false
  | some s => s.irq

/-- The instances that drive input n of the host's interrupts: those wired to it whose IRQ line is 1 (60_exceptions.md R310). What the
host makes of them is the platform's (log entry 20). -/
def irqSources (p : Platform) (n : Nat) : List Nat :=
  (p.irqRoute.filter fun r => r.2 == n && irqLevel p r.1).map Prod.fst

/-- The first block that holds an address: its instance's index, counted from `k`, and the offset in it. -/
def routeFrom (k addr : Nat) : List Nat → Option (Nat × Nat)
  | [] => none
  | b :: rest => if b ≤ addr ∧ addr < b + blockBytes then some (k, addr - b) else routeFrom (k + 1) addr rest

/-- The instance and the offset an absolute address reaches (20_memory.md R60). -/
def route (p : Platform) (addr : Nat) : Option (Nat × Nat) := routeFrom 0 addr p.bases

/-- Instance k of a platform takes one step on its own state. -/
def stepEngine (k : Nat) (p : Platform) : Host.Outcome Platform Fault Refusal :=
  match p.engines[k]? with
  | none => .next p
  | some s =>
    match step s with
    | .next t => .next { p with engines := p.engines.set k t }
    | .fault f => .fault f
    | .refused r => .refused r

/-- Instance k performs one event at once, before what is queued for it. -/
def performAt (k : Nat) (e : Event) (p : Platform) : Host.Outcome Platform Fault Refusal :=
  match p.engines[k]? with
  | none => .next p
  | some s => stepEngine k { p with engines := p.engines.set k { s with events := e :: s.events } }

/-- One event of a platform. A host access goes to the one instance whose block holds its address; an access outside every block
has no meaning (20_memory.md R65). RST reaches every instance: they "start together at reset" (60_exceptions.md R313). -/
def platformStep (e : PlatformEvent) (p : Platform) : Host.Outcome Platform Fault Refusal :=
  match e with
  | .read addr n =>
    match route p addr with
    | some (k, off) => performAt k (.read off n) p
    | none => .refused (.rejected (.hostAccessUndefined addr n))
  | .write addr n v =>
    match route p addr with
    | some (k, off) => performAt k (.write off n v) p
    | none => .refused (.rejected (.hostAccessUndefined addr n))
  | .turn k => stepEngine k p
  | .rst => .next { p with engines := p.engines.map resetInstance }

end Sys2Proof.Machine
end

