-- ==== Sys2Proof/Safety.lean ====
section
/-! DEFINITION. The terms claims are made in: the invariant of an instance, and the response of the wire, written byte by byte
from the frame layouts (30_encoding.md R91 to R106) and not from the builders' pseudocode. -/

namespace Sys2Proof.Machine

/-! ## The invariant -/

/-- The lengths a response frame can have (42_response_builder.md R214, R217, R220), by outcome code (60_exceptions.md R301). -/
def frameLength (o : BitVec 4) : Nat :=
  if o = Config.outcomeSuccessV4 then 32
  else if o = Config.outcomeSuccessV6 then 44
  else if o = Config.outcomeErr400 then 40
  else if o = Config.outcomeErr420Type ∨ o = Config.outcomeErr420Cookie then 36
  else 0

/-- What holds of an instance at reset and after every step. -/
structure Inv (s : State) : Prop where
  /-- OUTCOME is one of the codes ever produced (60_exceptions.md R301) -/
  outcome_produced : s.outcome.toNat ≤ 5
  /-- OUT_LEN is the length that goes with OUTCOME, 0 with NONE (10_state.md R29, 60_exceptions.md R301) -/
  outLen_matches : s.outLen.toNat = frameLength s.outcome
  /-- OUT[OUT_LEN..48) are 0x00 (10_state.md R30) -/
  out_zero_past : ∀ i : Fin 48, s.outLen.toNat ≤ i.val → s.outBuf[i] = 0x00#8
  /-- DONE is 0 while BUSY (44_host_commands.md R279) -/
  done_not_busy : s.eng = .busy → s.done = false
  /-- a PROCESS in flight has a legal family (44_host_commands.md R277, 30_encoding.md R112) -/
  busy_family : s.eng = .busy → s.lFamily = Config.familyV4 ∨ s.lFamily = Config.familyV6
  /-- RESP is empty or has the length of its outcome (10_state.md R36) -/
  resp_matches : s.resp.length = frameLength s.respOutcome
  /-- RESP_OUTCOME is one of the codes ever produced -/
  respOutcome_produced : s.respOutcome.toNat ≤ 5

/-! ## The response on the wire, byte by byte -/

/-- The first eight bytes of a response header: type, length, cookie (30_encoding.md R91, R94). -/
def wireHead (t0 t1 len : Byte) : List Byte := [t0, t1, 0x00#8, len, 0x21#8, 0x12#8, 0xA4#8, 0x42#8]

/-- The 40 bytes of the 400 response (42_response_builder.md R215, its example). -/
def wire400 : List Byte :=
  wireHead 0x01 0x11 0x14 ++ [0, 0, 0, 0, 0, 0, 0, 0, 0, 0, 0, 0]
    ++ [0x00, 0x09, 0x00, 0x10, 0x00, 0x00, 0x04, 0x00]
    ++ [0x42, 0x61, 0x64, 0x20, 0x72, 0x65, 0x71, 0x75, 0x65, 0x73, 0x74, 0x2e]

/-- The 36 bytes of a 420 response, from the transaction id and the eight bytes of the quadruple (30_encoding.md R104, R106). -/
def wire420 (txid slots : List Byte) : List Byte :=
  wireHead 0x01 0x11 0x10 ++ txid ++ [0x00, 0x0a, 0x00, 0x0c, 0x00, 0x00, 0x04, 0x14] ++ slots

/-- Byte-by-byte XOR of two sequences. -/
def xorBytes (a b : List Byte) : List Byte := List.zipWith (· ^^^ ·) a b

/-- The 32 bytes of an IPv4 success: port and octets XORed with the cookie's bytes (30_encoding.md R98, R106). -/
def wireV4 (txid port addr : List Byte) : List Byte :=
  wireHead 0x01 0x01 0x0c ++ txid ++ [0x00, 0x20, 0x00, 0x08, 0x00, 0x01]
    ++ xorBytes port [0x21, 0x12] ++ xorBytes addr [0x21, 0x12, 0xA4, 0x42]

/-- The 44 bytes of an IPv6 success: octets XORed with the cookie's bytes then the transaction id's (30_encoding.md R99, R106). -/
def wireV6 (txid port addr : List Byte) : List Byte :=
  wireHead 0x01 0x01 0x18 ++ txid ++ [0x00, 0x20, 0x00, 0x14, 0x00, 0x02]
    ++ xorBytes port [0x21, 0x12] ++ xorBytes addr ([0x21, 0x12, 0xA4, 0x42] ++ txid)

/-- The source's one map from a frame and a peer to a response (00_scope.md R3), with its outcome code: the frame by its length and
its first 20 bytes, the peer by its family, its two port bytes and its 16 address bytes. -/
def wireResponse (len : Nat) (hdr : List Byte) (family : Byte) (port addr : List Byte) : List Byte × BitVec 4 :=
  if len < 20 then (wire400, 0x3#4)
  else if hdr.take 2 ≠ [0x00, 0x01] then (wire420 (hdr.drop 8) (hdr.take 2 ++ [0, 0, 0, 0, 0, 0]), 0x4#4)
  else if (hdr.drop 4).take 4 ≠ [0x21, 0x12, 0xA4, 0x42] then
    (wire420 (hdr.drop 8) ((hdr.drop 4).take 4 ++ [0, 0, 0, 0]), 0x5#4)
  else if family = 0x01 then (wireV4 (hdr.drop 8) port (addr.take 4), 0x1#4)
  else (wireV6 (hdr.drop 8) port addr, 0x2#4)

/-- The wire response of the latched request. -/
def latchedResponse (s : State) : List Byte × BitVec 4 :=
  wireResponse s.lLen.toNat s.lHdr.toList s.lFamily [s.lPort.extractLsb' 8 8, s.lPort.extractLsb' 0 8] s.lAddr.toList

/-! ## The register map by offset -/

/-- The word of the register at an offset of the block, each offset as 10_state.md R31 numbers it; an offset it does not name is
reserved and reads 0. OUT_LEN, OUT_BUF and OUTCOME are the committed result, which a read shows while IDLE (20_memory.md R73). -/
def registerWord (s : State) (off : Nat) : Word :=
  if off = 0x000 then 0x5354554E#32
  else if off = 0x004 then (s.op.setWidth 32 <<< 4) ||| (if s.irqEn then 4#32 else 0#32)
  else if off = 0x008 then
    (if s.eng = .busy then 1#32 else 0#32) ||| (if s.done then 2#32 else 0#32) ||| (if s.errOp then 4#32 else 0#32)
      ||| (if s.errBusy then 8#32 else 0#32) ||| (if s.errFamily then 16#32 else 0#32) ||| (s.outcome.setWidth 32 <<< 8)
  else if off = 0x00C then s.inLen
  else if off = 0x010 then s.peerFamily.setWidth 32
  else if off = 0x014 then s.peerPort.setWidth 32
  else if off = 0x018 then s.outLen.setWidth 32
  else if h : 0x020 ≤ off ∧ off < 0x030 then s.peerAddr[(off - 0x020) / 4]
  else if h : 0x040 ≤ off ∧ off < 0x054 then s.inHdr[(off - 0x040) / 4]
  else if h : 0x080 ≤ off ∧ off < 0x0B0 then
    s.outBuf[4 * ((off - 0x080) / 4)] ++ s.outBuf[4 * ((off - 0x080) / 4) + 1] ++ s.outBuf[4 * ((off - 0x080) / 4) + 2]
      ++ s.outBuf[4 * ((off - 0x080) / 4) + 3]
  else 0#32

/-- The offsets whose reads show a result: STATUS, OUT_LEN and OUT_BUF0..11 (20_memory.md R73). -/
def isResultOffset (off : Nat) : Prop := off = 0x008 ∨ off = 0x018 ∨ (0x080 ≤ off ∧ off ≤ 0x0AC)

/-! ## Parts of the state that claims compare -/

/-- The hardware's part of a state: the model's own five fields set to fixed values, so that comparing `hw` compares exactly the
state the spec gives the instance (10_state.md R20). -/
def State.hw (s : State) : State := { s with events := [], draws := 0, stream := 0, readData := 0#32, unitOut := .none }

/-- The two states agree on the latch (10_state.md R33). -/
def SameLatch (s t : State) : Prop :=
  s.lLen = t.lLen ∧ s.lHdr = t.lHdr ∧ s.lFamily = t.lFamily ∧ s.lPort = t.lPort ∧ s.lAddr = t.lAddr

/-- The two states agree on the committed result (20_memory.md R72). -/
def SameResult (s t : State) : Prop :=
  s.outBuf = t.outBuf ∧ s.outLen = t.outLen ∧ s.outcome = t.outcome

/-- A run is at a result a claim can rely on: BUSY is 0 and DONE is 1 (20_memory.md R72, 70_reset_and_hazards.md R344). -/
def ResultReady (s : State) : Prop := s.eng = .idle ∧ s.done = true

/-- A step that is a reset: RST, or a CTRL write with SOFT_RESET. -/
def IsResetStep (s : State) : Prop :=
  ∃ rest, s.events = .rst :: rest ∨ ∃ v : Word, v.getLsbD 1 = true ∧ s.events = .wr 0x004 v :: rest

/-- A step that is the engine's commit. -/
def IsCommitStep (s : State) : Prop := s.eng = .busy ∧ (s.events = [] ∨ ∃ rest, s.events = .engineStep :: rest)

end Sys2Proof.Machine
end

