-- ==== Sys2Proof/Certificates/Slice0/Obligations.lean ====
section
/-! DEFINITION. The statements for the provers. Rule numbers are spec/'s; a log entry is a row of notes/assumptions. -/

open Sys2Proof Sys2Proof.Machine

/-! ## Steps, decoding -/

/-- A step performs the next event: it runs the instruction the event decodes to, on the state without that event (R70; the event
list is the model's choice, log entry 2). -/
def Obligations.StepRunsDecodedEvent : Prop :=
  ∀ (s : State) (e : Event) (rest : List Event) (i : Instr), s.events = e :: rest → e ≠ .rst → decode s.view e = .ok i →
    step s = exec i { s with events := rest }

/-- With no event to come a BUSY instance takes its engine step and an IDLE one holds its state (R249, R314; log entries 2, 3). -/
def Obligations.StepWithNoEventToCome : Prop :=
  ∀ s : State, s.events = [] →
    (s.eng = .busy → step s = exec .engineCommit s) ∧ (s.eng = .idle → step s = .next s ∧ exec .engineCommit s = .next s)

/-- R65: an access of another width, misaligned or outside the block is refused by its offset and width. -/
def Obligations.UndefinedAccessIsRefused : Prop :=
  ∀ (s : State) (off n : Nat) (v : Word) (rest : List Event), (n ≠ 4 ∨ off % 4 ≠ 0 ∨ 0x0FF < off) →
    (s.events = .read off n :: rest → step s = .refused (.rejected (.hostAccessUndefined off n))) ∧
    (s.events = .write off n v :: rest → step s = .refused (.rejected (.hostAccessUndefined off n)))

/-- Decoding the encoding of a well-formed instruction gives it back, with every operand at every value, wherever the registers
select it (R110, R112, R113, R116). -/
def Obligations.DecodeOfEncodeIsIdentity : Prop :=
  ∀ (w : View) (i : Instr), i.wf = true → selects w i → decode w (encode i) = .ok i

/-- Whatever decodes is well formed, is selected by the registers, and is encoded by the event it came from: no event has a second
reading and no operand bit is lost. -/
def Obligations.DecodedIsSelectedAndEncodesBack : Prop :=
  ∀ (w : View) (e : Event) (i : Instr), decode w e = .ok i → i.wf = true ∧ selects w i ∧ encode i = e

/-- Words written out from the spec's encodings decode to the instructions they stand for (R110, R112, R113; H1, H6, H9, H10). -/
def Obligations.SampleEncodingsDecode : Prop :=
  let idleV4 : View :=
    { busy := false, peerFamily := 0x01, lLen := 20, hType := 0x0001, hCookie := 0x2112A442, dsel := 0b000_00000001 }
  decode idleV4 (.rd 0x0AC) = .ok (.hostRd 43) ∧
  decode idleV4 (.wr 0x014 0x0000B109) = .ok (.hostWr 5 0x0000B109) ∧
  decode idleV4 (.wr 0x018 0xFFFF) = .ok (.hostWrIgnored 6 0xFFFF) ∧
  decode idleV4 (.wr 0x004 0x11) = .ok (.cmdProcess 0x11) ∧
  decode idleV4 (.wr 0x004 0x13) = .ok (.cmdSoftReset 0x13) ∧
  decode { idleV4 with busy := true } (.wr 0x004 0x31) = .ok (.startBusy 0x31) ∧
  decode idleV4 (.wr 0x008 0x1E) = .ok (.statusW1c 0x1E) ∧
  decode idleV4 .lengthTest = .ok .rxFullHeader ∧
  decode idleV4 .builder = .ok .buildSuccessV4 ∧
  decode idleV4 (.codec 0b001100 (.bytes [])) = .ok (.decU96 []) ∧
  decode idleV4 (.wireError 0x00000414) = .ok .errcode420

/-! ## Reset -/

/-- R340: both resets give every piece of state of the instance its reset value; the engine is IDLE and IRQ is 0. -/
def Obligations.ResetsGiveResetState : Prop :=
  (∀ (s : State) (v : Word), v.getLsbD 1 = true →
    ∃ t, exec (.cmdSoftReset v) s = .next t ∧ t.hw = State.reset ∧ t.eng = .idle ∧ t.irq = false) ∧
  (∀ (s : State) (rest : List Event), s.events = .rst :: rest →
    ∃ t, step s = .next t ∧ t.hw = State.reset ∧ t.eng = .idle ∧ t.irq = false)

/-- R341: the word a read of each offset of the block returns after reset. -/
def Obligations.ReadsAfterReset : Prop :=
  ∀ idx : BitVec 6, readReg State.reset (regAt idx) = if idx = 0 then 0x5354554E#32 else if idx = 1 then 0x00000010#32 else 0#32

/-- R342: a reset while BUSY, by either source, abandons the PROCESS in flight: the engine is IDLE, DONE, OUT_BUF and OUT_LEN are 0, and
the engine's next turn commits nothing (a turn that is not enabled holds the state: log entry 3). -/
def Obligations.ResetAbandonsProcess : Prop :=
  ∀ s : State, s.eng = .busy →
    (∀ v : Word, v.getLsbD 1 = true → ∃ t, exec (.cmdSoftReset v) s = .next t ∧ t.eng = .idle ∧ t.done = false ∧ t.outLen = 0 ∧
      (∀ i : Fin 48, t.outBuf[i] = 0) ∧ exec .engineCommit t = .next t) ∧
    (∀ rest, s.events = .rst :: rest → ∃ t, step s = .next t ∧ t.eng = .idle ∧ t.done = false ∧ t.outLen = 0 ∧
      (∀ i : Fin 48, t.outBuf[i] = 0) ∧ exec .engineCommit t = .next t)

/-! ## Host accesses -/

/-- While IDLE a host read returns the word of the register at its offset, each offset as R31 numbers it, and changes nothing else
(R270, R21 to R31; where the word goes is log entry 4). -/
def Obligations.IdleReadReturnsRegister : Prop :=
  ∀ (s : State) (idx : BitVec 6), s.eng = .idle →
    exec (.hostRd idx) s = .next { s with readData := registerWord s (4 * idx.toNat) }

/-- While BUSY a read of OUT_BUF0..11 (indexes 32 to 43), of OUT_LEN[15:0] (index 6) or of STATUS.OUTCOME (index 2) shows the next free
value; STATUS's other fields and OUT_LEN's high bits stay defined (R73, R31, R29, R23; how much of the word is drawn is log entry 7,
the stream and the counter log entry 6). -/
def Obligations.BusyReadDrawsFreely : Prop :=
  ∀ s : State, s.eng = .busy →
    let d := Config.freeDraw s.stream s.draws
    (∀ k : Fin 12, exec (.hostRd (BitVec.ofNat 6 (32 + k))) s = .next { s with readData := d, draws := s.draws + 1 }) ∧
    exec (.hostRd 6) s = .next { s with readData := d &&& 0x0000FFFF#32, draws := s.draws + 1 } ∧
    (∃ t, exec (.hostRd 2) s = .next t ∧ t = { s with readData := t.readData, draws := s.draws + 1 } ∧
      t.readData.getLsbD 0 = true ∧ t.readData.getLsbD 1 = s.done ∧ t.readData.getLsbD 2 = s.errOp ∧
      t.readData.getLsbD 3 = s.errBusy ∧ t.readData.getLsbD 4 = s.errFamily ∧ t.readData.extractLsb' 5 3 = 0 ∧
      t.readData.extractLsb' 8 4 = d.extractLsb' 0 4 ∧ t.readData.extractLsb' 12 20 = 0)

/-- A read in any state completes and leaves the instance as it was (R67's first sentence). -/
def Obligations.ReadHasNoSideEffect : Prop :=
  ∀ (s : State) (idx : BitVec 6), ∃ t, exec (.hostRd idx) s = .next t ∧ t.hw = s.hw

/-- R271: a data register takes v, restricted to its defined bits, in any state, and nothing else changes; a write to a read-only
register or a reserved offset changes nothing. -/
def Obligations.DataWriteStoresDefinedBits : Prop :=
  ∀ (s : State) (v : Word),
    exec (.hostWr 3 v) s = .next { s with inLen := v } ∧
    exec (.hostWr 4 v) s = .next { s with peerFamily := v.extractLsb' 0 8 } ∧
    exec (.hostWr 5 v) s = .next { s with peerPort := v.extractLsb' 0 16 } ∧
    (∀ k : Fin 4, exec (.hostWr (BitVec.ofNat 6 (8 + k)) v) s = .next { s with peerAddr := s.peerAddr.set k v }) ∧
    (∀ k : Fin 5, exec (.hostWr (BitVec.ofNat 6 (16 + k)) v) s = .next { s with inHdr := s.inHdr.set k v }) ∧
    (∀ idx, (Instr.hostWrIgnored idx v).wf = true → exec (.hostWrIgnored idx v) s = .next s)

/-- After a write a read of the data register returns the defined bits written, and a read of any other offset returns what it would
have returned before the write (R271, R270, R66; where the word goes is log entry 4, what a BUSY read draws log entry 6). -/
def Obligations.WriteThenReadBack : Prop :=
  ∀ (s : State) (idx j : BitVec 6) (v : Word), isDataIndex idx = true →
    ∃ t, exec (.hostWr idx v) s = .next t ∧
      exec (.hostRd idx) t =
        .next { t with readData := if idx = 4 then v &&& 0xFF#32 else if idx = 5 then v &&& 0xFFFF#32 else v } ∧
      (j ≠ idx → ∃ u u', exec (.hostRd j) s = .next u ∧ exec (.hostRd j) t = .next u' ∧ u'.readData = u.readData)

/-- R62: byte 4k+j of the input and address windows is bits 31-8j to 24-8j of word k, and a word of the output window is its four
bytes, the first on top. -/
def Obligations.WindowsPackBigEndian : Prop :=
  (∀ (ws : Vector Word 5) (k : Fin 5) (j : Fin 4), (inWindow ws)[4 * k.val + j.val] = ws[k].extractLsb' (24 - 8 * j.val) 8) ∧
  (∀ (ws : Vector Word 4) (k : Fin 4) (j : Fin 4), (addrWindow ws)[4 * k.val + j.val] = ws[k].extractLsb' (24 - 8 * j.val) 8) ∧
  (∀ (out : Vector Byte 48) (k : Fin 12) (j : Fin 4), (outWord out k).extractLsb' (24 - 8 * j.val) 8 = out[4 * k.val + j.val])

/-! ## Host commands -/

/-- R275: START while BUSY sets ERR_BUSY and stores the fields; nothing else changes. -/
def Obligations.StartWhileBusySetsErrBusy : Prop :=
  ∀ (s : State) (v : Word), v.getLsbD 1 = false → v.getLsbD 0 = true → s.eng = .busy →
    exec (.startBusy v) s = .next { s with irqEn := v.getLsbD 2, op := v.extractLsb' 4 4, errBusy := true }

/-- R276: START with a reserved OP sets ERR_OP and stores the fields; nothing else changes. -/
def Obligations.StartReservedOpSetsErrOp : Prop :=
  ∀ (s : State) (v : Word), v.getLsbD 1 = false → v.getLsbD 0 = true → v.extractLsb' 4 4 ≠ 0x1#4 → s.eng = .idle →
    exec (.startReservedOp v) s = .next { s with irqEn := v.getLsbD 2, op := v.extractLsb' 4 4, errOp := true }

/-- R277: START with an illegal family sets ERR_FAMILY and stores the fields; nothing else changes, whatever the frame. -/
def Obligations.StartBadFamilySetsErrFamily : Prop :=
  ∀ (s : State) (v : Word), v.getLsbD 1 = false → v.getLsbD 0 = true → v.extractLsb' 4 4 = 0x1#4 → s.eng = .idle →
    s.peerFamily ≠ 0x01 → s.peerFamily ≠ 0x02 →
    exec (.startBadFamily v) s = .next { s with irqEn := v.getLsbD 2, op := v.extractLsb' 4 4, errFamily := true }

/-- R274: an accepted START copies the input registers to the latch, clears DONE and sets BUSY; the error bits and the result
registers are untouched. -/
def Obligations.AcceptedStartLatchesInputs : Prop :=
  ∀ (s : State) (v : Word), v.getLsbD 1 = false → v.getLsbD 0 = true → v.extractLsb' 4 4 = 0x1#4 → s.eng = .idle →
    (s.peerFamily = 0x01 ∨ s.peerFamily = 0x02) →
    exec (.cmdProcess v) s = .next { s with
      irqEn := v.getLsbD 2, op := v.extractLsb' 4 4, done := false, eng := .busy
      lLen := s.inLen, lHdr := inWindow s.inHdr, lFamily := s.peerFamily, lPort := s.peerPort, lAddr := addrWindow s.peerAddr }

/-- R278: a CTRL write without START or SOFT_RESET stores IRQ_EN and OP, in any state; nothing else changes. -/
def Obligations.ConfigStoresCtrlFields : Prop :=
  ∀ (s : State) (v : Word), v.getLsbD 1 = false → v.getLsbD 0 = false →
    exec (.ctrlConfig v) s = .next { s with irqEn := v.getLsbD 2, op := v.extractLsb' 4 4 }

/-- R307: one CTRL write acts on the first condition it meets, and sets at most one error bit. -/
def Obligations.CtrlWriteFirstConditionWins : Prop :=
  ∀ (s : State) (v : Word) (rest : List Event), s.events = .wr 0x004 v :: rest →
    let u : State := { s with events := rest }
    let stored : State := { u with irqEn := v.getLsbD 2, op := v.extractLsb' 4 4 }
    ∃ t, step s = .next t ∧
      (v.getLsbD 1 = true → t.hw = State.reset) ∧
      (v.getLsbD 1 = false → v.getLsbD 0 = true → s.eng = .busy → t = { stored with errBusy := true }) ∧
      (v.getLsbD 1 = false → v.getLsbD 0 = true → s.eng = .idle → v.extractLsb' 4 4 ≠ 0x1#4 → t = { stored with errOp := true }) ∧
      (v.getLsbD 1 = false → v.getLsbD 0 = true → s.eng = .idle → v.extractLsb' 4 4 = 0x1#4 →
        ¬ (s.peerFamily = 0x01 ∨ s.peerFamily = 0x02) → t = { stored with errFamily := true }) ∧
      (v.getLsbD 1 = false → v.getLsbD 0 = true → s.eng = .idle → v.extractLsb' 4 4 = 0x1#4 →
        (s.peerFamily = 0x01 ∨ s.peerFamily = 0x02) →
        t.eng = .busy ∧ t.errOp = s.errOp ∧ t.errBusy = s.errBusy ∧ t.errFamily = s.errFamily) ∧
      (v.getLsbD 1 = false → v.getLsbD 0 = false → t = stored) ∧
      ([(s.errOp, t.errOp), (s.errBusy, t.errBusy), (s.errFamily, t.errFamily)].filter (· = (false, true))).length ≤ 1

/-- R279: a STATUS write clears exactly the sticky bits it has a 1 for; BUSY, OUTCOME and all else stay. -/
def Obligations.StatusWriteClearsMarkedBits : Prop :=
  ∀ (s : State) (v : Word), exec (.statusW1c v) s = .next { s with
    done := if v.getLsbD 1 then false else s.done
    errOp := if v.getLsbD 2 then false else s.errOp
    errBusy := if v.getLsbD 3 then false else s.errBusy
    errFamily := if v.getLsbD 4 then false else s.errFamily }

/-- R32: the interrupt line is the level of its five inputs, and 0 at reset. -/
def Obligations.IrqIsLevelOfItsInputs : Prop :=
  (∀ s : State, s.irq = true ↔
    s.irqEn = true ∧ (s.done = true ∨ s.errOp = true ∨ s.errBusy = true ∨ s.errFamily = true)) ∧
  State.reset.irq = false

/-- R71: an accepted START takes the inputs of that moment into the latch, and no host write after it, short of a reset, reaches the
latch or ends the PROCESS in flight. -/
def Obligations.LatchSeesOnlyEarlierWrites : Prop :=
  (∀ (s : State) (v : Word), v.getLsbD 1 = false → v.getLsbD 0 = true → v.extractLsb' 4 4 = 0x1#4 → s.eng = .idle →
    (s.peerFamily = 0x01 ∨ s.peerFamily = 0x02) →
    ∃ t, exec (.cmdProcess v) s = .next t ∧ t.eng = .busy ∧ t.lLen = s.inLen ∧ t.lHdr = inWindow s.inHdr ∧
      t.lFamily = s.peerFamily ∧ t.lPort = s.peerPort ∧ t.lAddr = addrWindow s.peerAddr) ∧
  (∀ (s : State) (off : Nat) (v : Word) (rest : List Event), s.events = .wr off v :: rest → off % 4 = 0 → off ≤ 0x0FC →
    s.eng = .busy → (off = 0x004 → v.getLsbD 1 = false) →
    ∃ t, step s = .next t ∧ t.eng = .busy ∧ SameLatch s t)

/-! ## The engine -/

/-- While BUSY with a legal latched family, ENGINE_COMMIT puts the wire response of the latched request into the output window,
zeroed past its end, with its length and outcome, sets DONE and goes IDLE, and changes no register the host can write, no latch,
no error bit (R249, R240, R106, R301). The response is written byte by byte from the frame layouts in Safety.lean; the reason bytes
are log entry 21. -/
def Obligations.CommitIsWireResponse : Prop :=
  ∀ s : State, s.eng = .busy → (s.lFamily = 0x01 ∨ s.lFamily = 0x02) →
    ∃ t, exec .engineCommit s = .next t ∧
      (∀ i : Fin 48, t.outBuf[i] = (latchedResponse s).1.getD i.val 0) ∧
      t.outLen.toNat = (latchedResponse s).1.length ∧
      t.outcome = (latchedResponse s).2 ∧ t.done = true ∧ t.eng = .idle ∧
      t = { s with
        outBuf := t.outBuf, outLen := t.outLen, outcome := t.outcome, done := true, eng := .idle
        hType := t.hType, hMlen := t.hMlen, hCookie := t.hCookie, hTxid := t.hTxid, vout := t.vout, quad := t.quad
        resp := t.resp, respOutcome := t.respOutcome }

/-- R247: PROCESS returns a frame of 32, 36, 40 or 44 bytes for every latch with a legal family. -/
def Obligations.ProcessIsTotal : Prop :=
  ∀ s : State, (s.lFamily = 0x01 ∨ s.lFamily = 0x02) →
    ∃ t, exec .process s = .next t ∧
      (t.resp.length = 32 ∨ t.resp.length = 36 ∨ t.resp.length = 40 ∨ t.resp.length = 44)

/-- PROCESS of a short frame writes the fixed 40 bytes and outcome 3, and nothing else, whatever the header, the family and the peer
(R240 step 1, R241, R215, R246, R302). The reason bytes are log entry 21; that nothing else is written, the internal header and validator
registers included, is log entry 19. -/
def Obligations.ProcessShortFrameGives400 : Prop :=
  ∀ s : State, s.lLen.toNat < 20 → exec .process s = .next { s with resp := wire400, respOutcome := 0x3#4 }

/-- R248: for a frame of 20 bytes or more, bytes 8 to 19 of the response are those of the request, for every outcome. -/
def Obligations.TransactionIdIsEchoed : Prop :=
  ∀ s : State, 20 ≤ s.lLen.toNat → (s.lFamily = 0x01 ∨ s.lFamily = 0x02) →
    ∃ t, exec .process s = .next t ∧ (t.resp.drop 8).take 12 = s.lHdr.toList.drop 8

/-- R221: in every response the attribute length field counts the bytes after the attribute header, and the message length field the
bytes after the header. -/
def Obligations.LengthFieldsAreDerived : Prop :=
  ∀ s : State, (s.lFamily = 0x01 ∨ s.lFamily = 0x02) →
    ∃ t, exec .process s = .next t ∧ 24 ≤ t.resp.length ∧
      beValue ((t.resp.drop 22).take 2) = t.resp.length - 24 ∧
      beValue ((t.resp.drop 2).take 2) = 4 + beValue ((t.resp.drop 22).take 2) ∧
      beValue ((t.resp.drop 2).take 2) = t.resp.length - 20

/-- R250: on equal latches two commits give equal OUT, OUT_LEN and OUTCOME, whatever else differs. -/
def Obligations.ResultDependsOnLatchOnly : Prop :=
  ∀ s s' : State, s.eng = .busy → s'.eng = .busy → SameLatch s s' → (s.lFamily = 0x01 ∨ s.lFamily = 0x02) →
    ∃ t t', exec .engineCommit s = .next t ∧ exec .engineCommit s' = .next t' ∧ SameResult t t'

/-- On the 400 path and on the 420 path the response does not depend on the peer (R252's first two sentences). -/
def Obligations.PeerMattersOnlyWhenValid : Prop :=
  ∀ s s' : State, s.lLen = s'.lLen → s.lHdr = s'.lHdr →
    (s.lLen.toNat < 20 ∨ s.lHdr.toList.take 2 ≠ [0x00, 0x01] ∨ (s.lHdr.toList.drop 4).take 4 ≠ [0x21, 0x12, 0xA4, 0x42]) →
    ∃ t t', exec .process s = .next t ∧ exec .process s' = .next t' ∧ t.resp = t'.resp ∧ t.respOutcome = t'.respOutcome

/-- The header fields are bytes 0-1, 2-3, 4-7 and 8-19 of the latched header, most significant first; nothing else changes (R160). That
a call with L_LEN below 20, outside R160's precondition, completes the same way is the model's choice: log entry 17. -/
def Obligations.DecodeHeaderReadsFields : Prop :=
  ∀ s : State, exec .decodeHeader s = .next { s with
    hType := s.lHdr[0] ++ s.lHdr[1]
    hMlen := s.lHdr[2] ++ s.lHdr[3]
    hCookie := s.lHdr[4] ++ s.lHdr[5] ++ s.lHdr[6] ++ s.lHdr[7]
    hTxid := s.lHdr[8] ++ s.lHdr[9] ++ s.lHdr[10] ++ s.lHdr[11] ++ s.lHdr[12] ++ s.lHdr[13] ++ s.lHdr[14] ++ s.lHdr[15]
      ++ s.lHdr[16] ++ s.lHdr[17] ++ s.lHdr[18] ++ s.lHdr[19] }

/-- R163: VALIDATE tests the type, then the cookie, and writes VOUT and QUAD; nothing else changes. -/
def Obligations.ValidateTestsTypeThenCookie : Prop :=
  ∀ s : State,
    (s.hType ≠ 0x0001 → exec .validate s = .next { s with vout := .invalidType, quad := ⟨s.hType, 0, 0, 0⟩ }) ∧
    (s.hType = 0x0001 → s.hCookie ≠ 0x2112A442 → exec .validate s = .next { s with
      vout := .invalidCookie, quad := ⟨s.hCookie.extractLsb' 16 16, s.hCookie.extractLsb' 0 16, 0, 0⟩ }) ∧
    (s.hType = 0x0001 → s.hCookie = 0x2112A442 → exec .validate s = .next { s with vout := .valid, quad := ⟨0, 0, 0, 0⟩ })

/-- The HDR_TYPE and HDR_COOKIE rows, each where its registers select it (R165, R166, R167; that RX_BINDING_REQUEST goes on to the
cookie test is log entry 10). -/
def Obligations.ValidatorRowsActAsSelected : Prop :=
  ∀ s : State,
    (s.hType ≠ 0x0001 → exec .rxOtherType s = .next { s with vout := .invalidType, quad := ⟨s.hType, 0, 0, 0⟩ }) ∧
    (s.hType = 0x0001 → exec .rxBindingRequest s = exec .validate s) ∧
    (s.hType = 0x0001 → ∃ t, exec .rxBindingRequest s = .next t ∧
      t.vout = (if s.hCookie = 0x2112A442 then Vout.valid else .invalidCookie) ∧ t = { s with vout := t.vout, quad := t.quad }) ∧
    (s.hType = 0x0001 → s.hCookie ≠ 0x2112A442 → exec .rxCookieBad s = .next { s with
      vout := .invalidCookie, quad := ⟨s.hCookie.extractLsb' 16 16, s.hCookie.extractLsb' 0 16, 0, 0⟩ }) ∧
    (s.hType = 0x0001 → s.hCookie = 0x2112A442 → exec .rxCookieOk s = .next { s with vout := .valid, quad := ⟨0, 0, 0, 0⟩ })

/-- The IN_LEN rows, each where L_LEN selects it: the short rows take the 400 path, the full row goes on to the header decode (R241,
R242; that the row does just this step is log entry 10). The reason bytes of the 400 response are log entry 21. -/
def Obligations.LengthRowsActAsSelected : Prop :=
  ∀ s : State,
    (s.lLen.toNat ≤ 15 → exec .rxShort0to15 s = .next { s with resp := wire400, respOutcome := 0x3#4 }) ∧
    (16 ≤ s.lLen.toNat → s.lLen.toNat ≤ 19 → exec .rxShort16to19 s = .next { s with resp := wire400, respOutcome := 0x3#4 }) ∧
    (20 ≤ s.lLen.toNat → exec .rxFullHeader s = exec .decodeHeader s ∧ ∃ t, exec .rxFullHeader s = .next t ∧
      t.hType = s.lHdr[0] ++ s.lHdr[1] ∧
      t = { s with hType := t.hType, hMlen := t.hMlen, hCookie := t.hCookie, hTxid := t.hTxid })

/-- The five builders emit the wire layouts and their outcome codes, and write nothing else (R211, R212, R215, R218, R106, R222). That a
builder called directly does so whatever DSEL and VOUT show is the model's choice, log entry 12: R218 gives outcome 0x4 only after
InvalidType and 0x5 only after InvalidCookie. The reason bytes are log entry 21. -/
def Obligations.BuildersEmitWireLayouts : Prop :=
  ∀ s : State,
    let txid := enc96 s.hTxid
    let slots := enc16 s.quad.q0 ++ enc16 s.quad.q1 ++ enc16 s.quad.q2 ++ enc16 s.quad.q3
    let port := [s.lPort.extractLsb' 8 8, s.lPort.extractLsb' 0 8]
    exec .buildError s = .next { s with resp := wire400, respOutcome := 0x3#4 } ∧
    exec .buildError420Type s = .next { s with resp := wire420 txid slots, respOutcome := 0x4#4 } ∧
    exec .buildError420Cookie s = .next { s with resp := wire420 txid slots, respOutcome := 0x5#4 } ∧
    exec .buildSuccessV4 s = .next { s with resp := wireV4 txid port (s.lAddr.toList.take 4), respOutcome := 0x1#4 } ∧
    exec .buildSuccessV6 s = .next { s with resp := wireV6 txid port s.lAddr.toList, respOutcome := 0x2#4 }

/-- R210: the latched family alone picks the success builder; any other family stops by name, since no other family reaches it (the
stop is log entry 9). -/
def Obligations.FamilyPicksSuccessBuilder : Prop :=
  ∀ s : State,
    (s.lFamily = 0x01 → ∃ t, exec .buildSuccess s = .next t ∧ exec .buildSuccessV4 s = .next t) ∧
    (s.lFamily = 0x02 → ∃ t, exec .buildSuccess s = .next t ∧ exec .buildSuccessV6 s = .next t) ∧
    (s.lFamily ≠ 0x01 → s.lFamily ≠ 0x02 → exec .buildSuccess s = .refused (.peerFamilyIllegal s.lFamily))

/-- PROCESS runs the builder that DSEL selects after validation (R112, R240). That a short frame's PROCESS leaves the internal header
and validator registers as they were, as the builder alone does, is log entry 19. -/
def Obligations.DselSelectsTheBuilder : Prop :=
  ∀ s : State, (s.lFamily = 0x01 ∨ s.lFamily = 0x02) →
    (s.lLen.toNat < 20 → decode s.view .builder = .ok .buildError ∧ exec .process s = exec .buildError s) ∧
    (20 ≤ s.lLen.toNat → ∃ u t i, exec .decodeHeader s = .next u ∧ exec .validate u = .next t ∧
      decode t.view .builder = .ok i ∧ exec .process s = exec i t)

/-! ## XOR encoder, serializers, codec, code points -/

/-- The XOR encoder's direct calls: their values, on the result port of log entry 5, and nothing else changes (R190 to R193). -/
def Obligations.XorEncoderValues : Prop :=
  ∀ (s : State) (p : Half) (a : Word) (a6 : Quad128) (t : TxId),
    exec (.xorPort p) s = .next { s with unitOut := .u16 (p ^^^ 0x2112#16) } ∧
    exec (.xorAddrV4 a) s = .next { s with unitOut := .u32 (a ^^^ 0x2112A442#32) } ∧
    exec (.xorMaskV6 t) s = .next { s with unitOut := .u128 (0x2112A442#32 ++ t) } ∧
    exec (.xorAddrV6 a6 t) s = .next { s with unitOut := .u128 (a6 ^^^ (0x2112A442#32 ++ t)) }

/-- R194: re-applying the XOR recovers port and address. -/
def Obligations.XorIsItsOwnInverse : Prop :=
  (∀ p, xorPort (xorPort p) = p) ∧ (∀ a, xorAddrV4 (xorAddrV4 a) = a) ∧ (∀ a t, xorAddrV6 (xorAddrV6 a t) t = a)

/-- The serializers' direct calls: their bytes, on the result port of log entry 5, and nothing else changes (R195 to R198). -/
def Obligations.HeaderAndAddressSerializers : Prop :=
  ∀ (s : State) (ty ml : Half) (p : Half) (a : Word) (a6 : Quad128) (t : TxId),
    let hi (x : Half) : Byte := x.extractLsb' 8 8
    let lo (x : Half) : Byte := x.extractLsb' 0 8
    exec (.encHeader ty ml t) s =
      .next { s with unitOut := .bytes ([hi ty, lo ty, hi ml, lo ml, 0x21, 0x12, 0xA4, 0x42] ++ enc96 t) } ∧
    exec (.encAttrHeader ty ml) s = .next { s with unitOut := .bytes [hi ty, lo ty, hi ml, lo ml] } ∧
    exec (.encAddrBodyV4 p a) s =
      .next { s with unitOut := .bytes ([0x00, 0x01, hi p ^^^ 0x21, lo p ^^^ 0x12] ++ enc32 (a ^^^ 0x2112A442#32)) } ∧
    exec (.encAddrBodyV6 p a6 t) s =
      .next { s with unitOut := .bytes ([0x00, 0x02, hi p ^^^ 0x21, lo p ^^^ 0x12] ++ enc128 (a6 ^^^ (0x2112A442#32 ++ t))) }

/-- The error serializers' direct calls: class and number, padding to a multiple of 4 by zero bytes, the four slots (R199 to R202,
R102, R103); an error code outside 300 to 699 is no operand and stops by name (log entry 18). -/
def Obligations.ErrorSerializers : Prop :=
  ∀ (s : State) (c : Nat) (r : List Byte) (q0 q1 q2 q3 : Half),
    let code : List Byte := [0, 0, BitVec.ofNat 8 (c / 100), BitVec.ofNat 8 (c % 100)]
    (300 ≤ c → c ≤ 699 → exec (.encErrorCode c) s = .next { s with unitOut := .bytes code }) ∧
    (∃ k, k < 4 ∧ (r.length + k) % 4 = 0 ∧
      exec (.padReason r) s = .next { s with unitOut := .bytes (r ++ List.replicate k 0) } ∧
      (300 ≤ c → c ≤ 699 → exec (.encErrorBody c r) s = .next { s with unitOut := .bytes (code ++ r ++ List.replicate k 0) })) ∧
    exec (.encUnknownBody q0 q1 q2 q3) s =
      .next { s with unitOut := .bytes ([0, 0, 4, 20] ++ enc16 q0 ++ enc16 q1 ++ enc16 q2 ++ enc16 q3) } ∧
    (¬ (300 ≤ c ∧ c ≤ 699) → exec (.encErrorCode c) s = .refused (.rejected (.operandRange c)) ∧
      exec (.encErrorBody c r) s = .refused (.rejected (.operandRange c)))

/-- R142: for each width, encoding gives that many bytes, decoding them gives the value back, and encoding a decoded sequence gives
back its first bytes. -/
def Obligations.CodecRoundTrips : Prop :=
  (∀ v : Half, (enc16 v).length = 2 ∧ dec16 (enc16 v) = v) ∧ (∀ l : List Byte, 2 ≤ l.length → enc16 (dec16 l) = l.take 2) ∧
  (∀ v : Word, (enc32 v).length = 4 ∧ dec32 (enc32 v) = v) ∧ (∀ l : List Byte, 4 ≤ l.length → enc32 (dec32 l) = l.take 4) ∧
  (∀ v : BitVec 64, (enc64 v).length = 8 ∧ dec64 (enc64 v) = v) ∧
  (∀ l : List Byte, 8 ≤ l.length → enc64 (dec64 l) = l.take 8) ∧
  (∀ v : TxId, (enc96 v).length = 12 ∧ dec96 (enc96 v) = v) ∧
  (∀ l : List Byte, 12 ≤ l.length → enc96 (dec96 l) = l.take 12) ∧
  (∀ v : Quad128, (enc128 v).length = 16 ∧ dec128 (enc128 v) = v) ∧
  (∀ l : List Byte, 16 ≤ l.length → enc128 (dec128 l) = l.take 16)

/-- The decoders' direct calls: on a long enough slice the value whose big-endian bytes the slice begins with, on the result port of
log entry 5, and nothing else changes; on a shorter slice `precondition ShortSlice` (R131 to R135, R141). -/
def Obligations.DecodersReadFirstBytes : Prop :=
  ∀ (s : State) (l : List Byte),
    (2 ≤ l.length → ∃ v, exec (.decU16 l) s = .next { s with unitOut := .u16 v } ∧ v.toNat = beValue (l.take 2)) ∧
    (4 ≤ l.length → ∃ v, exec (.decU32 l) s = .next { s with unitOut := .u32 v } ∧ v.toNat = beValue (l.take 4)) ∧
    (8 ≤ l.length → ∃ v, exec (.decU64 l) s = .next { s with unitOut := .u64 v } ∧ v.toNat = beValue (l.take 8)) ∧
    (12 ≤ l.length → ∃ v, exec (.decU96 l) s = .next { s with unitOut := .u96 v } ∧ v.toNat = beValue (l.take 12)) ∧
    (16 ≤ l.length → ∃ v, exec (.decU128 l) s = .next { s with unitOut := .u128 v } ∧ v.toNat = beValue (l.take 16)) ∧
    (l.length < 2 → exec (.decU16 l) s = .fault (.shortSlice 2 l.length)) ∧
    (l.length < 4 → exec (.decU32 l) s = .fault (.shortSlice 4 l.length)) ∧
    (l.length < 8 → exec (.decU64 l) s = .fault (.shortSlice 8 l.length)) ∧
    (l.length < 12 → exec (.decU96 l) s = .fault (.shortSlice 12 l.length)) ∧
    (l.length < 16 → exec (.decU128 l) s = .fault (.shortSlice 16 l.length))

/-- The encoders' direct calls: n bytes, byte i being bits 8(n-1-i)+7 to 8(n-1-i) of the value, on the result port of log entry 5,
and nothing else changes (R136 to R140). -/
def Obligations.EncodersEmitBigEndian : Prop :=
  ∀ (s : State) (v16 : Half) (v32 : Word) (v64 : BitVec 64) (v96 : TxId) (v128 : Quad128),
    exec (.encU16 v16) s = .next { s with unitOut := .bytes (List.ofFn fun i : Fin 2 => v16.extractLsb' (8 * (1 - i.val)) 8) } ∧
    exec (.encU32 v32) s = .next { s with unitOut := .bytes (List.ofFn fun i : Fin 4 => v32.extractLsb' (8 * (3 - i.val)) 8) } ∧
    exec (.encU64 v64) s = .next { s with unitOut := .bytes (List.ofFn fun i : Fin 8 => v64.extractLsb' (8 * (7 - i.val)) 8) } ∧
    exec (.encU96 v96) s = .next { s with unitOut := .bytes (List.ofFn fun i : Fin 12 => v96.extractLsb' (8 * (11 - i.val)) 8) } ∧
    exec (.encU128 v128) s =
      .next { s with unitOut := .bytes (List.ofFn fun i : Fin 16 => v128.extractLsb' (8 * (15 - i.val)) 8) }

/-- The code points, emitted big-endian on the result port of log entries 5 and 13; nothing else changes (R92, R97, R100, R102). -/
def Obligations.CodePointsOnTheWire : Prop :=
  ∀ s : State,
    exec .txSuccessResponse s = .next { s with unitOut := .bytes [0x01, 0x01] } ∧
    exec .txErrorResponse s = .next { s with unitOut := .bytes [0x01, 0x11] } ∧
    exec .attrXorMappedAddress s = .next { s with unitOut := .bytes [0x00, 0x20] } ∧
    exec .attrErrorCode s = .next { s with unitOut := .bytes [0x00, 0x09] } ∧
    exec .attrUnknownAttributes s = .next { s with unitOut := .bytes [0x00, 0x0A] } ∧
    exec .familyIpv4 s = .next { s with unitOut := .bytes [0x01] } ∧
    exec .familyIpv6 s = .next { s with unitOut := .bytes [0x02] } ∧
    exec .errcode400 s = .next { s with unitOut := .bytes [0x00, 0x00, 0x04, 0x00] } ∧
    exec .errcode420 s = .next { s with unitOut := .bytes [0x00, 0x00, 0x04, 0x14] }

/-! ## Rules of the whole machine -/

/-- Every step keeps the invariant of Safety.lean, whatever the event (R29, R30, R36, R274, R277, R279, R301). -/
def Obligations.InvariantKeptByEveryStep : Prop :=
  ∀ s t : State, Inv s → step s = .next t → Inv t

/-- The invariant holds at reset. -/
def Obligations.InvariantHoldsAtReset : Prop := Inv State.reset

/-- OUT, OUT_LEN and OUTCOME change only by a commit or a reset (R280's second sentence, R72). -/
def Obligations.ResultChangesOnlyByCommitOrReset : Prop :=
  ∀ s t : State, step s = .next t → ¬ SameResult s t → IsCommitStep s ∨ IsResetStep s

/-- The error bits are sticky: a step that clears one is a reset or a STATUS write with a 1 in that bit (R23, its last two
sentences). -/
def Obligations.ErrorBitsAreSticky : Prop :=
  ∀ s t : State, step s = .next t →
    (s.errOp = true → t.errOp = false →
      IsResetStep s ∨ ∃ (v : Word) (rest : List Event), v.getLsbD 2 = true ∧ s.events = .wr 0x008 v :: rest) ∧
    (s.errBusy = true → t.errBusy = false →
      IsResetStep s ∨ ∃ (v : Word) (rest : List Event), v.getLsbD 3 = true ∧ s.events = .wr 0x008 v :: rest) ∧
    (s.errFamily = true → t.errFamily = false →
      IsResetStep s ∨ ∃ (v : Word) (rest : List Event), v.getLsbD 4 = true ∧ s.events = .wr 0x008 v :: rest)

/-- The latch changes only by an accepted START or a reset (R33). -/
def Obligations.LatchChangesOnlyByStartOrReset : Prop :=
  ∀ s t : State, step s = .next t → ¬ SameLatch s t →
    IsResetStep s ∨
    (s.eng = .idle ∧ t.eng = .busy ∧ (s.peerFamily = 0x01 ∨ s.peerFamily = 0x02) ∧
      ∃ (v : Word) (rest : List Event), v.getLsbD 0 = true ∧ v.getLsbD 1 = false ∧ v.extractLsb' 4 4 = 0x1#4 ∧
        s.events = .wr 0x004 v :: rest)

/-- ENG_STATE goes from BUSY to IDLE only by a commit, which sets DONE, or by a reset, and from IDLE to BUSY only by a CTRL write
with START and OP = PROCESS (R38). -/
def Obligations.EngineStateTransitions : Prop :=
  ∀ s t : State, step s = .next t →
    (s.eng = .busy → t.eng = .idle → (IsCommitStep s ∧ t.done = true) ∨ IsResetStep s) ∧
    (s.eng = .idle → t.eng = .busy → ∃ (v : Word) (rest : List Event), s.events = .wr 0x004 v :: rest ∧
      v.getLsbD 0 = true ∧ v.getLsbD 1 = false ∧ v.extractLsb' 4 4 = 0x1#4 ∧ t.done = false)

/-- A BUSY instance that meets the invariant and has no event to come reaches its result in one step (R249, R350; the fairness is
the model's form, log entry 2). -/
def Obligations.BusyEngineCommitsWhenNoEventIsToCome : Prop :=
  ∀ s : State, Inv s → s.eng = .busy → s.events = [] → ∃ t, step s = .next t ∧ ResultReady t ∧ 0 < t.outLen.toNat

/-- R77: no access to one instance's block, and no step of one instance, changes another instance. -/
def Obligations.InstancesDoNotInteract : Prop :=
  ∀ (p q : Platform) (j : Nat),
    (∀ addr n k off, route p addr = some (k, off) → j ≠ k → platformStep (.read addr n) p = .next q →
      q.engines[j]? = p.engines[j]?) ∧
    (∀ addr n v k off, route p addr = some (k, off) → j ≠ k → platformStep (.write addr n v) p = .next q →
      q.engines[j]? = p.engines[j]?) ∧
    (∀ k, j ≠ k → platformStep (.turn k) p = .next q → q.engines[j]? = p.engines[j]?)

/-- A host access, read or write, at an absolute address inside instance k's block is the access at its offset, performed by that
instance at once, and stops where that stops (R60, R64, R65; the platform form is log entry 1). -/
def Obligations.AccessReachesItsInstance : Prop :=
  ∀ (p : Platform) (k base off n : Nat) (v : Word) (s : State), platformWf p = true → p.bases[k]? = some base → off < 0x100 →
    p.engines[k]? = some s →
    (∀ t, step { s with events := .read off n :: s.events } = .next t →
      platformStep (.read (base + off) n) p = .next { p with engines := p.engines.set k t }) ∧
    (∀ r, step { s with events := .read off n :: s.events } = .refused r →
      platformStep (.read (base + off) n) p = .refused r) ∧
    (∀ t, step { s with events := .write off n v :: s.events } = .next t →
      platformStep (.write (base + off) n v) p = .next { p with engines := p.engines.set k t }) ∧
    (∀ r, step { s with events := .write off n v :: s.events } = .refused r →
      platformStep (.write (base + off) n v) p = .refused r)

/-- In any state, BUSY or IDLE, a read of an offset that shows no result returns the word of its register, the last value written, and
changes nothing else; reserved offsets read 0 (R270, R31, R66; where the word goes is log entry 4). -/
def Obligations.OtherReadReturnsRegisterInAnyState : Prop :=
  ∀ (s : State) (idx : BitVec 6), ¬ isResultOffset (4 * idx.toNat) →
    exec (.hostRd idx) s = .next { s with readData := registerWord s (4 * idx.toNat) }

/-- The instances that drive input n of the host's interrupts are those that IRQ_ROUTE wires to it and whose IRQ line is 1 (R8, R310,
R32; the platform form is log entry 1). -/
def Obligations.IrqReachesItsWiredInputs : Prop :=
  ∀ (p : Platform) (n k : Nat), k ∈ irqSources p n ↔
    (k, n) ∈ p.irqRoute ∧ ∃ s, p.engines[k]? = some s ∧ s.irqEn = true ∧
      (s.done = true ∨ s.errOp = true ∨ s.errBusy = true ∨ s.errFamily = true)

/-- Every event of a platform leaves its arguments N_ENGINES, BASE_k and IRQ_ROUTE as they are, and keeps it well formed: the blocks
stay disjoint, and no two instances draw free values from one stream (R8, R313, R73; log entries 1, 6). -/
def Obligations.PlatformEventsKeepItsArguments : Prop :=
  ∀ (p q : Platform) (e : PlatformEvent), platformWf p = true → platformStep e p = .next q →
    platformWf q = true ∧ q.bases = p.bases ∧ q.irqRoute = p.irqRoute ∧ q.engines.length = p.engines.length ∧
      q.engines.map State.stream = p.engines.map State.stream

/-- The instances start together at reset: for any disjoint bases and any wires from those instances the platform after reset is well
formed, and each instance, there and after RST, is at its reset state (R313, R340; log entry 1). -/
def Obligations.InstancesStartTogetherAtReset : Prop :=
  (∀ (bases : List Nat) (irqRoute : List (Nat × Nat)), 1 ≤ bases.length → disjointBases bases → (∀ r ∈ irqRoute, r.1 < bases.length) →
    platformWf (Platform.reset bases irqRoute) = true ∧
    ∀ (k : Nat) (s : State), (Platform.reset bases irqRoute).engines[k]? = some s → s.hw = State.reset) ∧
  (∀ p : Platform, ∃ q, platformStep .rst p = .next q ∧ q.engines.length = p.engines.length ∧
    ∀ (k : Nat) (s : State), q.engines[k]? = some s → s.hw = State.reset)
end

