-- ==== Sys2Proof/Laws/Codec.lean ====
section
/-! SUPPORT. What the big-endian codec does: lengths, value and bytes as inverses (40_codec.md R130), and the lengths of the
serialized pieces (42_response_builder.md R195 to R220). -/

namespace Sys2Proof.Machine

@[simp] theorem beBytes_length {w : Nat} (n : Nat) (v : BitVec w) : (beBytes n v).length = n := by
  induction n with
  | zero => rfl
  | succ n ih => simp [beBytes, ih]

theorem beValue_lt (s : List Byte) : beValue s < 2 ^ (8 * s.length) := by
  induction s with
  | nil => simp [beValue]
  | cons b rest ih =>
    have hb : b.toNat < 2 ^ 8 := b.isLt
    have hp : 2 ^ (8 * (rest.length + 1)) = 2 ^ 8 * 2 ^ (8 * rest.length) := by rw [← pow_add]; congr 1; omega
    simp only [beValue, List.length_cons, hp]
    nlinarith [Nat.mul_le_mul_right (2 ^ (8 * rest.length)) (Nat.succ_le_of_lt hb)]

/-- The value of the bytes of v is v, cut to the bytes taken. -/
theorem beValue_beBytes {w : Nat} (n : Nat) (v : BitVec w) : beValue (beBytes n v) = v.toNat % 2 ^ (8 * n) := by
  induction n with
  | zero => simp [beBytes, beValue, Nat.mod_one]
  | succ n ih =>
    have hp : 2 ^ (8 * (n + 1)) = 2 ^ (8 * n) * 2 ^ 8 := by rw [← pow_add]; congr 1
    rw [hp, Nat.mod_mul]
    simp only [beBytes, beValue, beBytes_length, ih, BitVec.extractLsb'_toNat, Nat.shiftRight_eq_div_pow]
    ring

/-- The bytes of the value of a sequence are the sequence, where the word is wide enough to hold it. -/
theorem beBytes_beValue {w : Nat} (s : List Byte) (hw : 8 * s.length ≤ w) :
    beBytes s.length (BitVec.ofNat w (beValue s)) = s := by
  suffices h : ∀ (t : List Byte) (x : Nat), 8 * t.length ≤ w → x % 2 ^ (8 * t.length) = beValue t → x < 2 ^ w →
      beBytes t.length (BitVec.ofNat w x) = t by
    refine h s _ hw (Nat.mod_eq_of_lt (beValue_lt s)) (lt_of_lt_of_le (beValue_lt s) ?_)
    exact Nat.pow_le_pow_right (by omega) hw
  intro t
  induction t with
  | nil => intros; rfl
  | cons b rest ih =>
    intro x hw hx hlt
    have hp : 2 ^ (8 * (rest.length + 1)) = 2 ^ (8 * rest.length) * 2 ^ 8 := by rw [← pow_add]; congr 1
    have hr := beValue_lt rest
    simp only [List.length_cons, hp, beValue] at hx hw ⊢
    have hpos : 0 < 2 ^ (8 * rest.length) := by positivity
    rw [Nat.mod_mul] at hx
    have hmod : x % 2 ^ (8 * rest.length) = beValue rest := by
      have := congrArg (· % 2 ^ (8 * rest.length)) hx
      simpa [Nat.add_mod, Nat.mod_eq_of_lt hr] using this
    have hdiv : x / 2 ^ (8 * rest.length) % 2 ^ 8 = b.toNat := by
      have : 2 ^ (8 * rest.length) * (x / 2 ^ (8 * rest.length) % 2 ^ 8) = 2 ^ (8 * rest.length) * b.toNat := by
        rw [hmod] at hx; linarith
      exact Nat.eq_of_mul_eq_mul_left hpos this
    simp only [beBytes, List.cons.injEq]
    refine ⟨?_, ih x (by omega) hmod hlt⟩
    apply BitVec.eq_of_toNat_eq
    simp only [BitVec.extractLsb'_toNat, BitVec.toNat_ofNat, Nat.shiftRight_eq_div_pow, Nat.mod_eq_of_lt hlt, hdiv]

/-- The bytes of the value of a sequence's first n bytes are those bytes. -/
theorem beBytes_beValue_take (n : Nat) (s : List Byte) (h : n ≤ s.length) :
    beBytes n (BitVec.ofNat (8 * n) (beValue (s.take n))) = s.take n := by
  have := beBytes_beValue (w := 8 * n) (s.take n) (by simp)
  simpa [Nat.min_eq_left h] using this

/-- The value of a sequence's first n bytes fits n bytes. -/
theorem beValue_take_lt (n : Nat) (s : List Byte) (h : n ≤ s.length) : beValue (s.take n) < 2 ^ (8 * n) := by
  have := beValue_lt (s.take n)
  rwa [List.length_take, Nat.min_eq_left h] at this

/-- Words that fit n bytes are equal when their n bytes are. -/
theorem beBytes_inj {w : Nat} (n : Nat) (hw : w ≤ 8 * n) {a b : BitVec w} : beBytes n a = beBytes n b ↔ a = b := by
  refine ⟨fun h => ?_, fun h => by rw [h]⟩
  have h := congrArg beValue h
  rw [beValue_beBytes, beValue_beBytes] at h
  have hl : 2 ^ w ≤ 2 ^ (8 * n) := Nat.pow_le_pow_right (by omega) hw
  apply BitVec.eq_of_toNat_eq
  rwa [Nat.mod_eq_of_lt (lt_of_lt_of_le a.isLt hl), Nat.mod_eq_of_lt (lt_of_lt_of_le b.isLt hl)] at h

/-- The bytes of an XOR are the XORs of the bytes. -/
theorem beBytes_xor {w : Nat} (n : Nat) (a b : BitVec w) :
    beBytes n (a ^^^ b) = List.zipWith (· ^^^ ·) (beBytes n a) (beBytes n b) := by
  induction n with
  | zero => rfl
  | succ n ih =>
    simp only [beBytes, List.zipWith_cons_cons, ih, List.cons.injEq, and_true]
    ext i hi; simp

/-- A word on top of another weighs its width. -/
theorem append_toNat {m n : Nat} (x : BitVec m) (y : BitVec n) : (x ++ y).toNat = x.toNat * 2 ^ n + y.toNat := by
  rw [BitVec.toNat_append, ← Nat.shiftLeft_add_eq_or_of_lt y.isLt, Nat.shiftLeft_eq]

/-- The IPv6 mask is the cookie on top of the transaction id (R192). -/
theorem xorMaskV6_eq (t : TxId) : xorMaskV6 t = 0x2112A442#32 ++ t := by
  unfold xorMaskV6
  rw [BitVec.append_def]
  rfl

/-- R131's value, byte by byte. -/
theorem dec16_cons (a b : Byte) (l : List Byte) : dec16 (a :: b :: l) = a ++ b := by
  apply BitVec.eq_of_toNat_eq
  have h := (a ++ b).isLt
  simp only [append_toNat] at h ⊢
  simp only [dec16, beValue, List.take, List.length, BitVec.toNat_ofNat]
  omega

/-- R132's value, byte by byte. -/
theorem dec32_cons (a b c d : Byte) (l : List Byte) : dec32 (a :: b :: c :: d :: l) = a ++ b ++ c ++ d := by
  apply BitVec.eq_of_toNat_eq
  have h := (a ++ b ++ c ++ d).isLt
  simp only [append_toNat] at h ⊢
  simp only [dec32, beValue, List.take, List.length, BitVec.toNat_ofNat]
  omega

/-- R134's value, byte by byte. -/
theorem dec96_cons (a0 a1 a2 a3 a4 a5 a6 a7 a8 a9 a10 a11 : Byte) (l : List Byte) :
    dec96 (a0 :: a1 :: a2 :: a3 :: a4 :: a5 :: a6 :: a7 :: a8 :: a9 :: a10 :: a11 :: l) =
      a0 ++ a1 ++ a2 ++ a3 ++ a4 ++ a5 ++ a6 ++ a7 ++ a8 ++ a9 ++ a10 ++ a11 := by
  apply BitVec.eq_of_toNat_eq
  have h0 := (a0 ++ a1 ++ a2 ++ a3 ++ a4 ++ a5 ++ a6 ++ a7 ++ a8 ++ a9 ++ a10 ++ a11).isLt
  simp only [append_toNat] at h0 ⊢
  simp only [dec96, beValue, List.take, List.length, BitVec.toNat_ofNat]
  omega
/-- The bytes of a latched header. -/
theorem toList_20 (v : Vector Byte 20) : v.toList = [v[0], v[1], v[2], v[3], v[4], v[5], v[6], v[7], v[8], v[9], v[10], v[11],
    v[12], v[13], v[14], v[15], v[16], v[17], v[18], v[19]] := by
  apply List.ext_getElem (by simp)
  intro i h1 h2
  simp only [Vector.length_toList] at h1
  interval_cases i <;> simp

/-! ## Lengths -/

@[simp] theorem enc16_length (v : Half) : (enc16 v).length = 2 := beBytes_length _ _
@[simp] theorem enc32_length (v : Word) : (enc32 v).length = 4 := beBytes_length _ _
@[simp] theorem enc64_length (v : BitVec 64) : (enc64 v).length = 8 := beBytes_length _ _
@[simp] theorem enc96_length (v : TxId) : (enc96 v).length = 12 := beBytes_length _ _
@[simp] theorem enc128_length (v : Quad128) : (enc128 v).length = 16 := beBytes_length _ _

@[simp] theorem zeros_length (n : Nat) : (zeros n).length = n := by simp [zeros]

@[simp] theorem encHeader_length (ty ml : Half) (t : TxId) : (encHeader ty ml t).length = 20 := by simp [encHeader]

@[simp] theorem encAttrHeader_length (ty al : Half) : (encAttrHeader ty al).length = 4 := by simp [encAttrHeader]

@[simp] theorem encAddrBodyV4_length (p : Half) (a : Word) : (encAddrBodyV4 p a).length = 8 := by simp [encAddrBodyV4]

@[simp] theorem encAddrBodyV6_length (p : Half) (a : Quad128) (t : TxId) : (encAddrBodyV6 p a t).length = 20 := by
  simp [encAddrBodyV6]

@[simp] theorem encErrorCode_length (c : Nat) : (encErrorCode c).length = 4 := rfl

@[simp] theorem encUnknownBody_length (q : Quad) : (encUnknownBody q).length = 12 := by simp [encUnknownBody]

/-- Padding reaches the next multiple of 4 with fewer than four bytes (R200). -/
theorem padReason_length_mod (r : List Byte) : (padReason r).length % 4 = 0 := by
  simp only [padReason, List.length_append, zeros_length]; omega

@[simp] theorem attrOf_length (ty : Half) (body : List Byte) : (attrOf ty body).length = 4 + body.length := by simp [attrOf]

@[simp] theorem frameOf_length (ty : Half) (t : TxId) (attr : List Byte) : (frameOf ty t attr).length = 20 + attr.length := by
  simp [frameOf]

/-- A frame of one attribute, laid out (R90, R91, R96). -/
theorem frameOf_attrOf (ty aty : Half) (t : TxId) (body : List Byte) : frameOf ty t (attrOf aty body) =
    enc16 ty ++ enc16 (BitVec.ofNat 16 (4 + body.length)) ++ enc32 Config.magicCookie ++ enc96 t ++ enc16 aty ++
      enc16 (BitVec.ofNat 16 body.length) ++ body := by
  simp only [frameOf, attrOf_length, lengthField, encHeader]
  simp only [attrOf, encAttrHeader, lengthField, List.append_assoc]

@[simp] theorem successFrameV4_length (p : Half) (a : Word) (t : TxId) : (successFrameV4 p a t).length = 32 := by
  simp [successFrameV4]

@[simp] theorem successFrameV6_length (p : Half) (a : Quad128) (t : TxId) : (successFrameV6 p a t).length = 44 := by
  simp [successFrameV6]

@[simp] theorem unknownFrame_length (q : Quad) (t : TxId) : (unknownFrame q t).length = 36 := by simp [unknownFrame]

/-- The only 400 frame the SFE builds is 40 bytes (R217). -/
@[simp] theorem errorFrame_length : (errorFrame 400 Config.badRequest 0#96).length = 40 := by decide

end Sys2Proof.Machine
end

