-- ==== Sys2Proof/Laws/State.lean ====
section
/-! SUPPORT. The state after each update, field by field, so that no later proof unfolds a record update. -/

namespace Sys2Proof.Machine

/-! ### hostRead -/

@[simp] theorem hostRead_irqEn (r : Reg) (s : State) : (hostRead r s).irqEn = s.irqEn := rfl
@[simp] theorem hostRead_op (r : Reg) (s : State) : (hostRead r s).op = s.op := rfl
@[simp] theorem hostRead_done (r : Reg) (s : State) : (hostRead r s).done = s.done := rfl
@[simp] theorem hostRead_errOp (r : Reg) (s : State) : (hostRead r s).errOp = s.errOp := rfl
@[simp] theorem hostRead_errBusy (r : Reg) (s : State) : (hostRead r s).errBusy = s.errBusy := rfl
@[simp] theorem hostRead_errFamily (r : Reg) (s : State) : (hostRead r s).errFamily = s.errFamily := rfl
@[simp] theorem hostRead_outcome (r : Reg) (s : State) : (hostRead r s).outcome = s.outcome := rfl
@[simp] theorem hostRead_inLen (r : Reg) (s : State) : (hostRead r s).inLen = s.inLen := rfl
@[simp] theorem hostRead_peerFamily (r : Reg) (s : State) : (hostRead r s).peerFamily = s.peerFamily := rfl
@[simp] theorem hostRead_peerPort (r : Reg) (s : State) : (hostRead r s).peerPort = s.peerPort := rfl
@[simp] theorem hostRead_peerAddr (r : Reg) (s : State) : (hostRead r s).peerAddr = s.peerAddr := rfl
@[simp] theorem hostRead_inHdr (r : Reg) (s : State) : (hostRead r s).inHdr = s.inHdr := rfl
@[simp] theorem hostRead_outLen (r : Reg) (s : State) : (hostRead r s).outLen = s.outLen := rfl
@[simp] theorem hostRead_outBuf (r : Reg) (s : State) : (hostRead r s).outBuf = s.outBuf := rfl
@[simp] theorem hostRead_lLen (r : Reg) (s : State) : (hostRead r s).lLen = s.lLen := rfl
@[simp] theorem hostRead_lHdr (r : Reg) (s : State) : (hostRead r s).lHdr = s.lHdr := rfl
@[simp] theorem hostRead_lFamily (r : Reg) (s : State) : (hostRead r s).lFamily = s.lFamily := rfl
@[simp] theorem hostRead_lPort (r : Reg) (s : State) : (hostRead r s).lPort = s.lPort := rfl
@[simp] theorem hostRead_lAddr (r : Reg) (s : State) : (hostRead r s).lAddr = s.lAddr := rfl
@[simp] theorem hostRead_hType (r : Reg) (s : State) : (hostRead r s).hType = s.hType := rfl
@[simp] theorem hostRead_hMlen (r : Reg) (s : State) : (hostRead r s).hMlen = s.hMlen := rfl
@[simp] theorem hostRead_hCookie (r : Reg) (s : State) : (hostRead r s).hCookie = s.hCookie := rfl
@[simp] theorem hostRead_hTxid (r : Reg) (s : State) : (hostRead r s).hTxid = s.hTxid := rfl
@[simp] theorem hostRead_vout (r : Reg) (s : State) : (hostRead r s).vout = s.vout := rfl
@[simp] theorem hostRead_quad (r : Reg) (s : State) : (hostRead r s).quad = s.quad := rfl
@[simp] theorem hostRead_resp (r : Reg) (s : State) : (hostRead r s).resp = s.resp := rfl
@[simp] theorem hostRead_respOutcome (r : Reg) (s : State) : (hostRead r s).respOutcome = s.respOutcome := rfl
@[simp] theorem hostRead_eng (r : Reg) (s : State) : (hostRead r s).eng = s.eng := rfl
@[simp] theorem hostRead_events (r : Reg) (s : State) : (hostRead r s).events = s.events := rfl
@[simp] theorem hostRead_draws (r : Reg) (s : State) : (hostRead r s).draws = s.draws + (if isDrawn s r then 1 else 0) := rfl
@[simp] theorem hostRead_stream (r : Reg) (s : State) : (hostRead r s).stream = s.stream := rfl
@[simp] theorem hostRead_readData (r : Reg) (s : State) : (hostRead r s).readData = readReg s r := rfl
@[simp] theorem hostRead_unitOut (r : Reg) (s : State) : (hostRead r s).unitOut = s.unitOut := rfl

/-! ### resetInstance -/

@[simp] theorem resetInstance_irqEn (s : State) : (resetInstance s).irqEn = State.reset.irqEn := rfl
@[simp] theorem resetInstance_op (s : State) : (resetInstance s).op = State.reset.op := rfl
@[simp] theorem resetInstance_done (s : State) : (resetInstance s).done = State.reset.done := rfl
@[simp] theorem resetInstance_errOp (s : State) : (resetInstance s).errOp = State.reset.errOp := rfl
@[simp] theorem resetInstance_errBusy (s : State) : (resetInstance s).errBusy = State.reset.errBusy := rfl
@[simp] theorem resetInstance_errFamily (s : State) : (resetInstance s).errFamily = State.reset.errFamily := rfl
@[simp] theorem resetInstance_outcome (s : State) : (resetInstance s).outcome = State.reset.outcome := rfl
@[simp] theorem resetInstance_inLen (s : State) : (resetInstance s).inLen = State.reset.inLen := rfl
@[simp] theorem resetInstance_peerFamily (s : State) : (resetInstance s).peerFamily = State.reset.peerFamily := rfl
@[simp] theorem resetInstance_peerPort (s : State) : (resetInstance s).peerPort = State.reset.peerPort := rfl
@[simp] theorem resetInstance_peerAddr (s : State) : (resetInstance s).peerAddr = State.reset.peerAddr := rfl
@[simp] theorem resetInstance_inHdr (s : State) : (resetInstance s).inHdr = State.reset.inHdr := rfl
@[simp] theorem resetInstance_outLen (s : State) : (resetInstance s).outLen = State.reset.outLen := rfl
@[simp] theorem resetInstance_outBuf (s : State) : (resetInstance s).outBuf = State.reset.outBuf := rfl
@[simp] theorem resetInstance_lLen (s : State) : (resetInstance s).lLen = State.reset.lLen := rfl
@[simp] theorem resetInstance_lHdr (s : State) : (resetInstance s).lHdr = State.reset.lHdr := rfl
@[simp] theorem resetInstance_lFamily (s : State) : (resetInstance s).lFamily = State.reset.lFamily := rfl
@[simp] theorem resetInstance_lPort (s : State) : (resetInstance s).lPort = State.reset.lPort := rfl
@[simp] theorem resetInstance_lAddr (s : State) : (resetInstance s).lAddr = State.reset.lAddr := rfl
@[simp] theorem resetInstance_hType (s : State) : (resetInstance s).hType = State.reset.hType := rfl
@[simp] theorem resetInstance_hMlen (s : State) : (resetInstance s).hMlen = State.reset.hMlen := rfl
@[simp] theorem resetInstance_hCookie (s : State) : (resetInstance s).hCookie = State.reset.hCookie := rfl
@[simp] theorem resetInstance_hTxid (s : State) : (resetInstance s).hTxid = State.reset.hTxid := rfl
@[simp] theorem resetInstance_vout (s : State) : (resetInstance s).vout = State.reset.vout := rfl
@[simp] theorem resetInstance_quad (s : State) : (resetInstance s).quad = State.reset.quad := rfl
@[simp] theorem resetInstance_resp (s : State) : (resetInstance s).resp = State.reset.resp := rfl
@[simp] theorem resetInstance_respOutcome (s : State) : (resetInstance s).respOutcome = State.reset.respOutcome := rfl
@[simp] theorem resetInstance_eng (s : State) : (resetInstance s).eng = State.reset.eng := rfl
@[simp] theorem resetInstance_events (s : State) : (resetInstance s).events = s.events := rfl
@[simp] theorem resetInstance_draws (s : State) : (resetInstance s).draws = s.draws := rfl
@[simp] theorem resetInstance_stream (s : State) : (resetInstance s).stream = s.stream := rfl
@[simp] theorem resetInstance_readData (s : State) : (resetInstance s).readData = s.readData := rfl
@[simp] theorem resetInstance_unitOut (s : State) : (resetInstance s).unitOut = s.unitOut := rfl

/-! ### storeCtrl -/

@[simp] theorem storeCtrl_irqEn (v : Word) (s : State) : (storeCtrl v s).irqEn = v.getLsbD 2 := rfl
@[simp] theorem storeCtrl_op (v : Word) (s : State) : (storeCtrl v s).op = v.extractLsb' 4 4 := rfl
@[simp] theorem storeCtrl_done (v : Word) (s : State) : (storeCtrl v s).done = s.done := rfl
@[simp] theorem storeCtrl_errOp (v : Word) (s : State) : (storeCtrl v s).errOp = s.errOp := rfl
@[simp] theorem storeCtrl_errBusy (v : Word) (s : State) : (storeCtrl v s).errBusy = s.errBusy := rfl
@[simp] theorem storeCtrl_errFamily (v : Word) (s : State) : (storeCtrl v s).errFamily = s.errFamily := rfl
@[simp] theorem storeCtrl_outcome (v : Word) (s : State) : (storeCtrl v s).outcome = s.outcome := rfl
@[simp] theorem storeCtrl_inLen (v : Word) (s : State) : (storeCtrl v s).inLen = s.inLen := rfl
@[simp] theorem storeCtrl_peerFamily (v : Word) (s : State) : (storeCtrl v s).peerFamily = s.peerFamily := rfl
@[simp] theorem storeCtrl_peerPort (v : Word) (s : State) : (storeCtrl v s).peerPort = s.peerPort := rfl
@[simp] theorem storeCtrl_peerAddr (v : Word) (s : State) : (storeCtrl v s).peerAddr = s.peerAddr := rfl
@[simp] theorem storeCtrl_inHdr (v : Word) (s : State) : (storeCtrl v s).inHdr = s.inHdr := rfl
@[simp] theorem storeCtrl_outLen (v : Word) (s : State) : (storeCtrl v s).outLen = s.outLen := rfl
@[simp] theorem storeCtrl_outBuf (v : Word) (s : State) : (storeCtrl v s).outBuf = s.outBuf := rfl
@[simp] theorem storeCtrl_lLen (v : Word) (s : State) : (storeCtrl v s).lLen = s.lLen := rfl
@[simp] theorem storeCtrl_lHdr (v : Word) (s : State) : (storeCtrl v s).lHdr = s.lHdr := rfl
@[simp] theorem storeCtrl_lFamily (v : Word) (s : State) : (storeCtrl v s).lFamily = s.lFamily := rfl
@[simp] theorem storeCtrl_lPort (v : Word) (s : State) : (storeCtrl v s).lPort = s.lPort := rfl
@[simp] theorem storeCtrl_lAddr (v : Word) (s : State) : (storeCtrl v s).lAddr = s.lAddr := rfl
@[simp] theorem storeCtrl_hType (v : Word) (s : State) : (storeCtrl v s).hType = s.hType := rfl
@[simp] theorem storeCtrl_hMlen (v : Word) (s : State) : (storeCtrl v s).hMlen = s.hMlen := rfl
@[simp] theorem storeCtrl_hCookie (v : Word) (s : State) : (storeCtrl v s).hCookie = s.hCookie := rfl
@[simp] theorem storeCtrl_hTxid (v : Word) (s : State) : (storeCtrl v s).hTxid = s.hTxid := rfl
@[simp] theorem storeCtrl_vout (v : Word) (s : State) : (storeCtrl v s).vout = s.vout := rfl
@[simp] theorem storeCtrl_quad (v : Word) (s : State) : (storeCtrl v s).quad = s.quad := rfl
@[simp] theorem storeCtrl_resp (v : Word) (s : State) : (storeCtrl v s).resp = s.resp := rfl
@[simp] theorem storeCtrl_respOutcome (v : Word) (s : State) : (storeCtrl v s).respOutcome = s.respOutcome := rfl
@[simp] theorem storeCtrl_eng (v : Word) (s : State) : (storeCtrl v s).eng = s.eng := rfl
@[simp] theorem storeCtrl_events (v : Word) (s : State) : (storeCtrl v s).events = s.events := rfl
@[simp] theorem storeCtrl_draws (v : Word) (s : State) : (storeCtrl v s).draws = s.draws := rfl
@[simp] theorem storeCtrl_stream (v : Word) (s : State) : (storeCtrl v s).stream = s.stream := rfl
@[simp] theorem storeCtrl_readData (v : Word) (s : State) : (storeCtrl v s).readData = s.readData := rfl
@[simp] theorem storeCtrl_unitOut (v : Word) (s : State) : (storeCtrl v s).unitOut = s.unitOut := rfl

/-! ### refuseBusy -/

@[simp] theorem refuseBusy_irqEn (v : Word) (s : State) : (refuseBusy v s).irqEn = v.getLsbD 2 := rfl
@[simp] theorem refuseBusy_op (v : Word) (s : State) : (refuseBusy v s).op = v.extractLsb' 4 4 := rfl
@[simp] theorem refuseBusy_done (v : Word) (s : State) : (refuseBusy v s).done = s.done := rfl
@[simp] theorem refuseBusy_errOp (v : Word) (s : State) : (refuseBusy v s).errOp = s.errOp := rfl
@[simp] theorem refuseBusy_errBusy (v : Word) (s : State) : (refuseBusy v s).errBusy = true := rfl
@[simp] theorem refuseBusy_errFamily (v : Word) (s : State) : (refuseBusy v s).errFamily = s.errFamily := rfl
@[simp] theorem refuseBusy_outcome (v : Word) (s : State) : (refuseBusy v s).outcome = s.outcome := rfl
@[simp] theorem refuseBusy_inLen (v : Word) (s : State) : (refuseBusy v s).inLen = s.inLen := rfl
@[simp] theorem refuseBusy_peerFamily (v : Word) (s : State) : (refuseBusy v s).peerFamily = s.peerFamily := rfl
@[simp] theorem refuseBusy_peerPort (v : Word) (s : State) : (refuseBusy v s).peerPort = s.peerPort := rfl
@[simp] theorem refuseBusy_peerAddr (v : Word) (s : State) : (refuseBusy v s).peerAddr = s.peerAddr := rfl
@[simp] theorem refuseBusy_inHdr (v : Word) (s : State) : (refuseBusy v s).inHdr = s.inHdr := rfl
@[simp] theorem refuseBusy_outLen (v : Word) (s : State) : (refuseBusy v s).outLen = s.outLen := rfl
@[simp] theorem refuseBusy_outBuf (v : Word) (s : State) : (refuseBusy v s).outBuf = s.outBuf := rfl
@[simp] theorem refuseBusy_lLen (v : Word) (s : State) : (refuseBusy v s).lLen = s.lLen := rfl
@[simp] theorem refuseBusy_lHdr (v : Word) (s : State) : (refuseBusy v s).lHdr = s.lHdr := rfl
@[simp] theorem refuseBusy_lFamily (v : Word) (s : State) : (refuseBusy v s).lFamily = s.lFamily := rfl
@[simp] theorem refuseBusy_lPort (v : Word) (s : State) : (refuseBusy v s).lPort = s.lPort := rfl
@[simp] theorem refuseBusy_lAddr (v : Word) (s : State) : (refuseBusy v s).lAddr = s.lAddr := rfl
@[simp] theorem refuseBusy_hType (v : Word) (s : State) : (refuseBusy v s).hType = s.hType := rfl
@[simp] theorem refuseBusy_hMlen (v : Word) (s : State) : (refuseBusy v s).hMlen = s.hMlen := rfl
@[simp] theorem refuseBusy_hCookie (v : Word) (s : State) : (refuseBusy v s).hCookie = s.hCookie := rfl
@[simp] theorem refuseBusy_hTxid (v : Word) (s : State) : (refuseBusy v s).hTxid = s.hTxid := rfl
@[simp] theorem refuseBusy_vout (v : Word) (s : State) : (refuseBusy v s).vout = s.vout := rfl
@[simp] theorem refuseBusy_quad (v : Word) (s : State) : (refuseBusy v s).quad = s.quad := rfl
@[simp] theorem refuseBusy_resp (v : Word) (s : State) : (refuseBusy v s).resp = s.resp := rfl
@[simp] theorem refuseBusy_respOutcome (v : Word) (s : State) : (refuseBusy v s).respOutcome = s.respOutcome := rfl
@[simp] theorem refuseBusy_eng (v : Word) (s : State) : (refuseBusy v s).eng = s.eng := rfl
@[simp] theorem refuseBusy_events (v : Word) (s : State) : (refuseBusy v s).events = s.events := rfl
@[simp] theorem refuseBusy_draws (v : Word) (s : State) : (refuseBusy v s).draws = s.draws := rfl
@[simp] theorem refuseBusy_stream (v : Word) (s : State) : (refuseBusy v s).stream = s.stream := rfl
@[simp] theorem refuseBusy_readData (v : Word) (s : State) : (refuseBusy v s).readData = s.readData := rfl
@[simp] theorem refuseBusy_unitOut (v : Word) (s : State) : (refuseBusy v s).unitOut = s.unitOut := rfl

/-! ### refuseOp -/

@[simp] theorem refuseOp_irqEn (v : Word) (s : State) : (refuseOp v s).irqEn = v.getLsbD 2 := rfl
@[simp] theorem refuseOp_op (v : Word) (s : State) : (refuseOp v s).op = v.extractLsb' 4 4 := rfl
@[simp] theorem refuseOp_done (v : Word) (s : State) : (refuseOp v s).done = s.done := rfl
@[simp] theorem refuseOp_errOp (v : Word) (s : State) : (refuseOp v s).errOp = true := rfl
@[simp] theorem refuseOp_errBusy (v : Word) (s : State) : (refuseOp v s).errBusy = s.errBusy := rfl
@[simp] theorem refuseOp_errFamily (v : Word) (s : State) : (refuseOp v s).errFamily = s.errFamily := rfl
@[simp] theorem refuseOp_outcome (v : Word) (s : State) : (refuseOp v s).outcome = s.outcome := rfl
@[simp] theorem refuseOp_inLen (v : Word) (s : State) : (refuseOp v s).inLen = s.inLen := rfl
@[simp] theorem refuseOp_peerFamily (v : Word) (s : State) : (refuseOp v s).peerFamily = s.peerFamily := rfl
@[simp] theorem refuseOp_peerPort (v : Word) (s : State) : (refuseOp v s).peerPort = s.peerPort := rfl
@[simp] theorem refuseOp_peerAddr (v : Word) (s : State) : (refuseOp v s).peerAddr = s.peerAddr := rfl
@[simp] theorem refuseOp_inHdr (v : Word) (s : State) : (refuseOp v s).inHdr = s.inHdr := rfl
@[simp] theorem refuseOp_outLen (v : Word) (s : State) : (refuseOp v s).outLen = s.outLen := rfl
@[simp] theorem refuseOp_outBuf (v : Word) (s : State) : (refuseOp v s).outBuf = s.outBuf := rfl
@[simp] theorem refuseOp_lLen (v : Word) (s : State) : (refuseOp v s).lLen = s.lLen := rfl
@[simp] theorem refuseOp_lHdr (v : Word) (s : State) : (refuseOp v s).lHdr = s.lHdr := rfl
@[simp] theorem refuseOp_lFamily (v : Word) (s : State) : (refuseOp v s).lFamily = s.lFamily := rfl
@[simp] theorem refuseOp_lPort (v : Word) (s : State) : (refuseOp v s).lPort = s.lPort := rfl
@[simp] theorem refuseOp_lAddr (v : Word) (s : State) : (refuseOp v s).lAddr = s.lAddr := rfl
@[simp] theorem refuseOp_hType (v : Word) (s : State) : (refuseOp v s).hType = s.hType := rfl
@[simp] theorem refuseOp_hMlen (v : Word) (s : State) : (refuseOp v s).hMlen = s.hMlen := rfl
@[simp] theorem refuseOp_hCookie (v : Word) (s : State) : (refuseOp v s).hCookie = s.hCookie := rfl
@[simp] theorem refuseOp_hTxid (v : Word) (s : State) : (refuseOp v s).hTxid = s.hTxid := rfl
@[simp] theorem refuseOp_vout (v : Word) (s : State) : (refuseOp v s).vout = s.vout := rfl
@[simp] theorem refuseOp_quad (v : Word) (s : State) : (refuseOp v s).quad = s.quad := rfl
@[simp] theorem refuseOp_resp (v : Word) (s : State) : (refuseOp v s).resp = s.resp := rfl
@[simp] theorem refuseOp_respOutcome (v : Word) (s : State) : (refuseOp v s).respOutcome = s.respOutcome := rfl
@[simp] theorem refuseOp_eng (v : Word) (s : State) : (refuseOp v s).eng = s.eng := rfl
@[simp] theorem refuseOp_events (v : Word) (s : State) : (refuseOp v s).events = s.events := rfl
@[simp] theorem refuseOp_draws (v : Word) (s : State) : (refuseOp v s).draws = s.draws := rfl
@[simp] theorem refuseOp_stream (v : Word) (s : State) : (refuseOp v s).stream = s.stream := rfl
@[simp] theorem refuseOp_readData (v : Word) (s : State) : (refuseOp v s).readData = s.readData := rfl
@[simp] theorem refuseOp_unitOut (v : Word) (s : State) : (refuseOp v s).unitOut = s.unitOut := rfl

/-! ### refuseFamily -/

@[simp] theorem refuseFamily_irqEn (v : Word) (s : State) : (refuseFamily v s).irqEn = v.getLsbD 2 := rfl
@[simp] theorem refuseFamily_op (v : Word) (s : State) : (refuseFamily v s).op = v.extractLsb' 4 4 := rfl
@[simp] theorem refuseFamily_done (v : Word) (s : State) : (refuseFamily v s).done = s.done := rfl
@[simp] theorem refuseFamily_errOp (v : Word) (s : State) : (refuseFamily v s).errOp = s.errOp := rfl
@[simp] theorem refuseFamily_errBusy (v : Word) (s : State) : (refuseFamily v s).errBusy = s.errBusy := rfl
@[simp] theorem refuseFamily_errFamily (v : Word) (s : State) : (refuseFamily v s).errFamily = true := rfl
@[simp] theorem refuseFamily_outcome (v : Word) (s : State) : (refuseFamily v s).outcome = s.outcome := rfl
@[simp] theorem refuseFamily_inLen (v : Word) (s : State) : (refuseFamily v s).inLen = s.inLen := rfl
@[simp] theorem refuseFamily_peerFamily (v : Word) (s : State) : (refuseFamily v s).peerFamily = s.peerFamily := rfl
@[simp] theorem refuseFamily_peerPort (v : Word) (s : State) : (refuseFamily v s).peerPort = s.peerPort := rfl
@[simp] theorem refuseFamily_peerAddr (v : Word) (s : State) : (refuseFamily v s).peerAddr = s.peerAddr := rfl
@[simp] theorem refuseFamily_inHdr (v : Word) (s : State) : (refuseFamily v s).inHdr = s.inHdr := rfl
@[simp] theorem refuseFamily_outLen (v : Word) (s : State) : (refuseFamily v s).outLen = s.outLen := rfl
@[simp] theorem refuseFamily_outBuf (v : Word) (s : State) : (refuseFamily v s).outBuf = s.outBuf := rfl
@[simp] theorem refuseFamily_lLen (v : Word) (s : State) : (refuseFamily v s).lLen = s.lLen := rfl
@[simp] theorem refuseFamily_lHdr (v : Word) (s : State) : (refuseFamily v s).lHdr = s.lHdr := rfl
@[simp] theorem refuseFamily_lFamily (v : Word) (s : State) : (refuseFamily v s).lFamily = s.lFamily := rfl
@[simp] theorem refuseFamily_lPort (v : Word) (s : State) : (refuseFamily v s).lPort = s.lPort := rfl
@[simp] theorem refuseFamily_lAddr (v : Word) (s : State) : (refuseFamily v s).lAddr = s.lAddr := rfl
@[simp] theorem refuseFamily_hType (v : Word) (s : State) : (refuseFamily v s).hType = s.hType := rfl
@[simp] theorem refuseFamily_hMlen (v : Word) (s : State) : (refuseFamily v s).hMlen = s.hMlen := rfl
@[simp] theorem refuseFamily_hCookie (v : Word) (s : State) : (refuseFamily v s).hCookie = s.hCookie := rfl
@[simp] theorem refuseFamily_hTxid (v : Word) (s : State) : (refuseFamily v s).hTxid = s.hTxid := rfl
@[simp] theorem refuseFamily_vout (v : Word) (s : State) : (refuseFamily v s).vout = s.vout := rfl
@[simp] theorem refuseFamily_quad (v : Word) (s : State) : (refuseFamily v s).quad = s.quad := rfl
@[simp] theorem refuseFamily_resp (v : Word) (s : State) : (refuseFamily v s).resp = s.resp := rfl
@[simp] theorem refuseFamily_respOutcome (v : Word) (s : State) : (refuseFamily v s).respOutcome = s.respOutcome := rfl
@[simp] theorem refuseFamily_eng (v : Word) (s : State) : (refuseFamily v s).eng = s.eng := rfl
@[simp] theorem refuseFamily_events (v : Word) (s : State) : (refuseFamily v s).events = s.events := rfl
@[simp] theorem refuseFamily_draws (v : Word) (s : State) : (refuseFamily v s).draws = s.draws := rfl
@[simp] theorem refuseFamily_stream (v : Word) (s : State) : (refuseFamily v s).stream = s.stream := rfl
@[simp] theorem refuseFamily_readData (v : Word) (s : State) : (refuseFamily v s).readData = s.readData := rfl
@[simp] theorem refuseFamily_unitOut (v : Word) (s : State) : (refuseFamily v s).unitOut = s.unitOut := rfl

/-! ### takeLatch -/

@[simp] theorem takeLatch_irqEn (s : State) : (takeLatch s).irqEn = s.irqEn := rfl
@[simp] theorem takeLatch_op (s : State) : (takeLatch s).op = s.op := rfl
@[simp] theorem takeLatch_done (s : State) : (takeLatch s).done = s.done := rfl
@[simp] theorem takeLatch_errOp (s : State) : (takeLatch s).errOp = s.errOp := rfl
@[simp] theorem takeLatch_errBusy (s : State) : (takeLatch s).errBusy = s.errBusy := rfl
@[simp] theorem takeLatch_errFamily (s : State) : (takeLatch s).errFamily = s.errFamily := rfl
@[simp] theorem takeLatch_outcome (s : State) : (takeLatch s).outcome = s.outcome := rfl
@[simp] theorem takeLatch_inLen (s : State) : (takeLatch s).inLen = s.inLen := rfl
@[simp] theorem takeLatch_peerFamily (s : State) : (takeLatch s).peerFamily = s.peerFamily := rfl
@[simp] theorem takeLatch_peerPort (s : State) : (takeLatch s).peerPort = s.peerPort := rfl
@[simp] theorem takeLatch_peerAddr (s : State) : (takeLatch s).peerAddr = s.peerAddr := rfl
@[simp] theorem takeLatch_inHdr (s : State) : (takeLatch s).inHdr = s.inHdr := rfl
@[simp] theorem takeLatch_outLen (s : State) : (takeLatch s).outLen = s.outLen := rfl
@[simp] theorem takeLatch_outBuf (s : State) : (takeLatch s).outBuf = s.outBuf := rfl
@[simp] theorem takeLatch_lLen (s : State) : (takeLatch s).lLen = s.inLen := rfl
@[simp] theorem takeLatch_lHdr (s : State) : (takeLatch s).lHdr = inWindow s.inHdr := rfl
@[simp] theorem takeLatch_lFamily (s : State) : (takeLatch s).lFamily = s.peerFamily := rfl
@[simp] theorem takeLatch_lPort (s : State) : (takeLatch s).lPort = s.peerPort := rfl
@[simp] theorem takeLatch_lAddr (s : State) : (takeLatch s).lAddr = addrWindow s.peerAddr := rfl
@[simp] theorem takeLatch_hType (s : State) : (takeLatch s).hType = s.hType := rfl
@[simp] theorem takeLatch_hMlen (s : State) : (takeLatch s).hMlen = s.hMlen := rfl
@[simp] theorem takeLatch_hCookie (s : State) : (takeLatch s).hCookie = s.hCookie := rfl
@[simp] theorem takeLatch_hTxid (s : State) : (takeLatch s).hTxid = s.hTxid := rfl
@[simp] theorem takeLatch_vout (s : State) : (takeLatch s).vout = s.vout := rfl
@[simp] theorem takeLatch_quad (s : State) : (takeLatch s).quad = s.quad := rfl
@[simp] theorem takeLatch_resp (s : State) : (takeLatch s).resp = s.resp := rfl
@[simp] theorem takeLatch_respOutcome (s : State) : (takeLatch s).respOutcome = s.respOutcome := rfl
@[simp] theorem takeLatch_eng (s : State) : (takeLatch s).eng = s.eng := rfl
@[simp] theorem takeLatch_events (s : State) : (takeLatch s).events = s.events := rfl
@[simp] theorem takeLatch_draws (s : State) : (takeLatch s).draws = s.draws := rfl
@[simp] theorem takeLatch_stream (s : State) : (takeLatch s).stream = s.stream := rfl
@[simp] theorem takeLatch_readData (s : State) : (takeLatch s).readData = s.readData := rfl
@[simp] theorem takeLatch_unitOut (s : State) : (takeLatch s).unitOut = s.unitOut := rfl

/-! ### acceptStart -/

@[simp] theorem acceptStart_irqEn (v : Word) (s : State) : (acceptStart v s).irqEn = v.getLsbD 2 := rfl
@[simp] theorem acceptStart_op (v : Word) (s : State) : (acceptStart v s).op = v.extractLsb' 4 4 := rfl
@[simp] theorem acceptStart_done (v : Word) (s : State) : (acceptStart v s).done = false := rfl
@[simp] theorem acceptStart_errOp (v : Word) (s : State) : (acceptStart v s).errOp = s.errOp := rfl
@[simp] theorem acceptStart_errBusy (v : Word) (s : State) : (acceptStart v s).errBusy = s.errBusy := rfl
@[simp] theorem acceptStart_errFamily (v : Word) (s : State) : (acceptStart v s).errFamily = s.errFamily := rfl
@[simp] theorem acceptStart_outcome (v : Word) (s : State) : (acceptStart v s).outcome = s.outcome := rfl
@[simp] theorem acceptStart_inLen (v : Word) (s : State) : (acceptStart v s).inLen = s.inLen := rfl
@[simp] theorem acceptStart_peerFamily (v : Word) (s : State) : (acceptStart v s).peerFamily = s.peerFamily := rfl
@[simp] theorem acceptStart_peerPort (v : Word) (s : State) : (acceptStart v s).peerPort = s.peerPort := rfl
@[simp] theorem acceptStart_peerAddr (v : Word) (s : State) : (acceptStart v s).peerAddr = s.peerAddr := rfl
@[simp] theorem acceptStart_inHdr (v : Word) (s : State) : (acceptStart v s).inHdr = s.inHdr := rfl
@[simp] theorem acceptStart_outLen (v : Word) (s : State) : (acceptStart v s).outLen = s.outLen := rfl
@[simp] theorem acceptStart_outBuf (v : Word) (s : State) : (acceptStart v s).outBuf = s.outBuf := rfl
@[simp] theorem acceptStart_lLen (v : Word) (s : State) : (acceptStart v s).lLen = s.inLen := rfl
@[simp] theorem acceptStart_lHdr (v : Word) (s : State) : (acceptStart v s).lHdr = inWindow s.inHdr := rfl
@[simp] theorem acceptStart_lFamily (v : Word) (s : State) : (acceptStart v s).lFamily = s.peerFamily := rfl
@[simp] theorem acceptStart_lPort (v : Word) (s : State) : (acceptStart v s).lPort = s.peerPort := rfl
@[simp] theorem acceptStart_lAddr (v : Word) (s : State) : (acceptStart v s).lAddr = addrWindow s.peerAddr := rfl
@[simp] theorem acceptStart_hType (v : Word) (s : State) : (acceptStart v s).hType = s.hType := rfl
@[simp] theorem acceptStart_hMlen (v : Word) (s : State) : (acceptStart v s).hMlen = s.hMlen := rfl
@[simp] theorem acceptStart_hCookie (v : Word) (s : State) : (acceptStart v s).hCookie = s.hCookie := rfl
@[simp] theorem acceptStart_hTxid (v : Word) (s : State) : (acceptStart v s).hTxid = s.hTxid := rfl
@[simp] theorem acceptStart_vout (v : Word) (s : State) : (acceptStart v s).vout = s.vout := rfl
@[simp] theorem acceptStart_quad (v : Word) (s : State) : (acceptStart v s).quad = s.quad := rfl
@[simp] theorem acceptStart_resp (v : Word) (s : State) : (acceptStart v s).resp = s.resp := rfl
@[simp] theorem acceptStart_respOutcome (v : Word) (s : State) : (acceptStart v s).respOutcome = s.respOutcome := rfl
@[simp] theorem acceptStart_eng (v : Word) (s : State) : (acceptStart v s).eng = .busy := rfl
@[simp] theorem acceptStart_events (v : Word) (s : State) : (acceptStart v s).events = s.events := rfl
@[simp] theorem acceptStart_draws (v : Word) (s : State) : (acceptStart v s).draws = s.draws := rfl
@[simp] theorem acceptStart_stream (v : Word) (s : State) : (acceptStart v s).stream = s.stream := rfl
@[simp] theorem acceptStart_readData (v : Word) (s : State) : (acceptStart v s).readData = s.readData := rfl
@[simp] theorem acceptStart_unitOut (v : Word) (s : State) : (acceptStart v s).unitOut = s.unitOut := rfl

/-! ### clearFlags -/

@[simp] theorem clearFlags_irqEn (v : Word) (s : State) : (clearFlags v s).irqEn = s.irqEn := rfl
@[simp] theorem clearFlags_op (v : Word) (s : State) : (clearFlags v s).op = s.op := rfl
@[simp] theorem clearFlags_done (v : Word) (s : State) : (clearFlags v s).done = (s.done && !v.getLsbD 1) := rfl
@[simp] theorem clearFlags_errOp (v : Word) (s : State) : (clearFlags v s).errOp = (s.errOp && !v.getLsbD 2) := rfl
@[simp] theorem clearFlags_errBusy (v : Word) (s : State) : (clearFlags v s).errBusy = (s.errBusy && !v.getLsbD 3) := rfl
@[simp] theorem clearFlags_errFamily (v : Word) (s : State) : (clearFlags v s).errFamily = (s.errFamily && !v.getLsbD 4) := rfl
@[simp] theorem clearFlags_outcome (v : Word) (s : State) : (clearFlags v s).outcome = s.outcome := rfl
@[simp] theorem clearFlags_inLen (v : Word) (s : State) : (clearFlags v s).inLen = s.inLen := rfl
@[simp] theorem clearFlags_peerFamily (v : Word) (s : State) : (clearFlags v s).peerFamily = s.peerFamily := rfl
@[simp] theorem clearFlags_peerPort (v : Word) (s : State) : (clearFlags v s).peerPort = s.peerPort := rfl
@[simp] theorem clearFlags_peerAddr (v : Word) (s : State) : (clearFlags v s).peerAddr = s.peerAddr := rfl
@[simp] theorem clearFlags_inHdr (v : Word) (s : State) : (clearFlags v s).inHdr = s.inHdr := rfl
@[simp] theorem clearFlags_outLen (v : Word) (s : State) : (clearFlags v s).outLen = s.outLen := rfl
@[simp] theorem clearFlags_outBuf (v : Word) (s : State) : (clearFlags v s).outBuf = s.outBuf := rfl
@[simp] theorem clearFlags_lLen (v : Word) (s : State) : (clearFlags v s).lLen = s.lLen := rfl
@[simp] theorem clearFlags_lHdr (v : Word) (s : State) : (clearFlags v s).lHdr = s.lHdr := rfl
@[simp] theorem clearFlags_lFamily (v : Word) (s : State) : (clearFlags v s).lFamily = s.lFamily := rfl
@[simp] theorem clearFlags_lPort (v : Word) (s : State) : (clearFlags v s).lPort = s.lPort := rfl
@[simp] theorem clearFlags_lAddr (v : Word) (s : State) : (clearFlags v s).lAddr = s.lAddr := rfl
@[simp] theorem clearFlags_hType (v : Word) (s : State) : (clearFlags v s).hType = s.hType := rfl
@[simp] theorem clearFlags_hMlen (v : Word) (s : State) : (clearFlags v s).hMlen = s.hMlen := rfl
@[simp] theorem clearFlags_hCookie (v : Word) (s : State) : (clearFlags v s).hCookie = s.hCookie := rfl
@[simp] theorem clearFlags_hTxid (v : Word) (s : State) : (clearFlags v s).hTxid = s.hTxid := rfl
@[simp] theorem clearFlags_vout (v : Word) (s : State) : (clearFlags v s).vout = s.vout := rfl
@[simp] theorem clearFlags_quad (v : Word) (s : State) : (clearFlags v s).quad = s.quad := rfl
@[simp] theorem clearFlags_resp (v : Word) (s : State) : (clearFlags v s).resp = s.resp := rfl
@[simp] theorem clearFlags_respOutcome (v : Word) (s : State) : (clearFlags v s).respOutcome = s.respOutcome := rfl
@[simp] theorem clearFlags_eng (v : Word) (s : State) : (clearFlags v s).eng = s.eng := rfl
@[simp] theorem clearFlags_events (v : Word) (s : State) : (clearFlags v s).events = s.events := rfl
@[simp] theorem clearFlags_draws (v : Word) (s : State) : (clearFlags v s).draws = s.draws := rfl
@[simp] theorem clearFlags_stream (v : Word) (s : State) : (clearFlags v s).stream = s.stream := rfl
@[simp] theorem clearFlags_readData (v : Word) (s : State) : (clearFlags v s).readData = s.readData := rfl
@[simp] theorem clearFlags_unitOut (v : Word) (s : State) : (clearFlags v s).unitOut = s.unitOut := rfl

/-! ### decodeHeader -/

@[simp] theorem decodeHeader_irqEn (s : State) : (decodeHeader s).irqEn = s.irqEn := rfl
@[simp] theorem decodeHeader_op (s : State) : (decodeHeader s).op = s.op := rfl
@[simp] theorem decodeHeader_done (s : State) : (decodeHeader s).done = s.done := rfl
@[simp] theorem decodeHeader_errOp (s : State) : (decodeHeader s).errOp = s.errOp := rfl
@[simp] theorem decodeHeader_errBusy (s : State) : (decodeHeader s).errBusy = s.errBusy := rfl
@[simp] theorem decodeHeader_errFamily (s : State) : (decodeHeader s).errFamily = s.errFamily := rfl
@[simp] theorem decodeHeader_outcome (s : State) : (decodeHeader s).outcome = s.outcome := rfl
@[simp] theorem decodeHeader_inLen (s : State) : (decodeHeader s).inLen = s.inLen := rfl
@[simp] theorem decodeHeader_peerFamily (s : State) : (decodeHeader s).peerFamily = s.peerFamily := rfl
@[simp] theorem decodeHeader_peerPort (s : State) : (decodeHeader s).peerPort = s.peerPort := rfl
@[simp] theorem decodeHeader_peerAddr (s : State) : (decodeHeader s).peerAddr = s.peerAddr := rfl
@[simp] theorem decodeHeader_inHdr (s : State) : (decodeHeader s).inHdr = s.inHdr := rfl
@[simp] theorem decodeHeader_outLen (s : State) : (decodeHeader s).outLen = s.outLen := rfl
@[simp] theorem decodeHeader_outBuf (s : State) : (decodeHeader s).outBuf = s.outBuf := rfl
@[simp] theorem decodeHeader_lLen (s : State) : (decodeHeader s).lLen = s.lLen := rfl
@[simp] theorem decodeHeader_lHdr (s : State) : (decodeHeader s).lHdr = s.lHdr := rfl
@[simp] theorem decodeHeader_lFamily (s : State) : (decodeHeader s).lFamily = s.lFamily := rfl
@[simp] theorem decodeHeader_lPort (s : State) : (decodeHeader s).lPort = s.lPort := rfl
@[simp] theorem decodeHeader_lAddr (s : State) : (decodeHeader s).lAddr = s.lAddr := rfl
@[simp] theorem decodeHeader_hType (s : State) : (decodeHeader s).hType = dec16 s.lHdr.toList := rfl
@[simp] theorem decodeHeader_hMlen (s : State) : (decodeHeader s).hMlen = dec16 (s.lHdr.toList.drop 2) := rfl
@[simp] theorem decodeHeader_hCookie (s : State) : (decodeHeader s).hCookie = dec32 (s.lHdr.toList.drop 4) := rfl
@[simp] theorem decodeHeader_hTxid (s : State) : (decodeHeader s).hTxid = dec96 (s.lHdr.toList.drop 8) := rfl
@[simp] theorem decodeHeader_vout (s : State) : (decodeHeader s).vout = s.vout := rfl
@[simp] theorem decodeHeader_quad (s : State) : (decodeHeader s).quad = s.quad := rfl
@[simp] theorem decodeHeader_resp (s : State) : (decodeHeader s).resp = s.resp := rfl
@[simp] theorem decodeHeader_respOutcome (s : State) : (decodeHeader s).respOutcome = s.respOutcome := rfl
@[simp] theorem decodeHeader_eng (s : State) : (decodeHeader s).eng = s.eng := rfl
@[simp] theorem decodeHeader_events (s : State) : (decodeHeader s).events = s.events := rfl
@[simp] theorem decodeHeader_draws (s : State) : (decodeHeader s).draws = s.draws := rfl
@[simp] theorem decodeHeader_stream (s : State) : (decodeHeader s).stream = s.stream := rfl
@[simp] theorem decodeHeader_readData (s : State) : (decodeHeader s).readData = s.readData := rfl
@[simp] theorem decodeHeader_unitOut (s : State) : (decodeHeader s).unitOut = s.unitOut := rfl

/-! ### setInvalidType -/

@[simp] theorem setInvalidType_irqEn (s : State) : (setInvalidType s).irqEn = s.irqEn := rfl
@[simp] theorem setInvalidType_op (s : State) : (setInvalidType s).op = s.op := rfl
@[simp] theorem setInvalidType_done (s : State) : (setInvalidType s).done = s.done := rfl
@[simp] theorem setInvalidType_errOp (s : State) : (setInvalidType s).errOp = s.errOp := rfl
@[simp] theorem setInvalidType_errBusy (s : State) : (setInvalidType s).errBusy = s.errBusy := rfl
@[simp] theorem setInvalidType_errFamily (s : State) : (setInvalidType s).errFamily = s.errFamily := rfl
@[simp] theorem setInvalidType_outcome (s : State) : (setInvalidType s).outcome = s.outcome := rfl
@[simp] theorem setInvalidType_inLen (s : State) : (setInvalidType s).inLen = s.inLen := rfl
@[simp] theorem setInvalidType_peerFamily (s : State) : (setInvalidType s).peerFamily = s.peerFamily := rfl
@[simp] theorem setInvalidType_peerPort (s : State) : (setInvalidType s).peerPort = s.peerPort := rfl
@[simp] theorem setInvalidType_peerAddr (s : State) : (setInvalidType s).peerAddr = s.peerAddr := rfl
@[simp] theorem setInvalidType_inHdr (s : State) : (setInvalidType s).inHdr = s.inHdr := rfl
@[simp] theorem setInvalidType_outLen (s : State) : (setInvalidType s).outLen = s.outLen := rfl
@[simp] theorem setInvalidType_outBuf (s : State) : (setInvalidType s).outBuf = s.outBuf := rfl
@[simp] theorem setInvalidType_lLen (s : State) : (setInvalidType s).lLen = s.lLen := rfl
@[simp] theorem setInvalidType_lHdr (s : State) : (setInvalidType s).lHdr = s.lHdr := rfl
@[simp] theorem setInvalidType_lFamily (s : State) : (setInvalidType s).lFamily = s.lFamily := rfl
@[simp] theorem setInvalidType_lPort (s : State) : (setInvalidType s).lPort = s.lPort := rfl
@[simp] theorem setInvalidType_lAddr (s : State) : (setInvalidType s).lAddr = s.lAddr := rfl
@[simp] theorem setInvalidType_hType (s : State) : (setInvalidType s).hType = s.hType := rfl
@[simp] theorem setInvalidType_hMlen (s : State) : (setInvalidType s).hMlen = s.hMlen := rfl
@[simp] theorem setInvalidType_hCookie (s : State) : (setInvalidType s).hCookie = s.hCookie := rfl
@[simp] theorem setInvalidType_hTxid (s : State) : (setInvalidType s).hTxid = s.hTxid := rfl
@[simp] theorem setInvalidType_vout (s : State) : (setInvalidType s).vout = .invalidType := rfl
@[simp] theorem setInvalidType_quad (s : State) : (setInvalidType s).quad = ⟨s.hType, 0#16, 0#16, 0#16⟩ := rfl
@[simp] theorem setInvalidType_resp (s : State) : (setInvalidType s).resp = s.resp := rfl
@[simp] theorem setInvalidType_respOutcome (s : State) : (setInvalidType s).respOutcome = s.respOutcome := rfl
@[simp] theorem setInvalidType_eng (s : State) : (setInvalidType s).eng = s.eng := rfl
@[simp] theorem setInvalidType_events (s : State) : (setInvalidType s).events = s.events := rfl
@[simp] theorem setInvalidType_draws (s : State) : (setInvalidType s).draws = s.draws := rfl
@[simp] theorem setInvalidType_stream (s : State) : (setInvalidType s).stream = s.stream := rfl
@[simp] theorem setInvalidType_readData (s : State) : (setInvalidType s).readData = s.readData := rfl
@[simp] theorem setInvalidType_unitOut (s : State) : (setInvalidType s).unitOut = s.unitOut := rfl

/-! ### setInvalidCookie -/

@[simp] theorem setInvalidCookie_irqEn (s : State) : (setInvalidCookie s).irqEn = s.irqEn := rfl
@[simp] theorem setInvalidCookie_op (s : State) : (setInvalidCookie s).op = s.op := rfl
@[simp] theorem setInvalidCookie_done (s : State) : (setInvalidCookie s).done = s.done := rfl
@[simp] theorem setInvalidCookie_errOp (s : State) : (setInvalidCookie s).errOp = s.errOp := rfl
@[simp] theorem setInvalidCookie_errBusy (s : State) : (setInvalidCookie s).errBusy = s.errBusy := rfl
@[simp] theorem setInvalidCookie_errFamily (s : State) : (setInvalidCookie s).errFamily = s.errFamily := rfl
@[simp] theorem setInvalidCookie_outcome (s : State) : (setInvalidCookie s).outcome = s.outcome := rfl
@[simp] theorem setInvalidCookie_inLen (s : State) : (setInvalidCookie s).inLen = s.inLen := rfl
@[simp] theorem setInvalidCookie_peerFamily (s : State) : (setInvalidCookie s).peerFamily = s.peerFamily := rfl
@[simp] theorem setInvalidCookie_peerPort (s : State) : (setInvalidCookie s).peerPort = s.peerPort := rfl
@[simp] theorem setInvalidCookie_peerAddr (s : State) : (setInvalidCookie s).peerAddr = s.peerAddr := rfl
@[simp] theorem setInvalidCookie_inHdr (s : State) : (setInvalidCookie s).inHdr = s.inHdr := rfl
@[simp] theorem setInvalidCookie_outLen (s : State) : (setInvalidCookie s).outLen = s.outLen := rfl
@[simp] theorem setInvalidCookie_outBuf (s : State) : (setInvalidCookie s).outBuf = s.outBuf := rfl
@[simp] theorem setInvalidCookie_lLen (s : State) : (setInvalidCookie s).lLen = s.lLen := rfl
@[simp] theorem setInvalidCookie_lHdr (s : State) : (setInvalidCookie s).lHdr = s.lHdr := rfl
@[simp] theorem setInvalidCookie_lFamily (s : State) : (setInvalidCookie s).lFamily = s.lFamily := rfl
@[simp] theorem setInvalidCookie_lPort (s : State) : (setInvalidCookie s).lPort = s.lPort := rfl
@[simp] theorem setInvalidCookie_lAddr (s : State) : (setInvalidCookie s).lAddr = s.lAddr := rfl
@[simp] theorem setInvalidCookie_hType (s : State) : (setInvalidCookie s).hType = s.hType := rfl
@[simp] theorem setInvalidCookie_hMlen (s : State) : (setInvalidCookie s).hMlen = s.hMlen := rfl
@[simp] theorem setInvalidCookie_hCookie (s : State) : (setInvalidCookie s).hCookie = s.hCookie := rfl
@[simp] theorem setInvalidCookie_hTxid (s : State) : (setInvalidCookie s).hTxid = s.hTxid := rfl
@[simp] theorem setInvalidCookie_vout (s : State) : (setInvalidCookie s).vout = .invalidCookie := rfl
@[simp] theorem setInvalidCookie_quad (s : State) : (setInvalidCookie s).quad = ⟨s.hCookie.extractLsb' 16 16, s.hCookie.extractLsb' 0 16, 0#16, 0#16⟩ := rfl
@[simp] theorem setInvalidCookie_resp (s : State) : (setInvalidCookie s).resp = s.resp := rfl
@[simp] theorem setInvalidCookie_respOutcome (s : State) : (setInvalidCookie s).respOutcome = s.respOutcome := rfl
@[simp] theorem setInvalidCookie_eng (s : State) : (setInvalidCookie s).eng = s.eng := rfl
@[simp] theorem setInvalidCookie_events (s : State) : (setInvalidCookie s).events = s.events := rfl
@[simp] theorem setInvalidCookie_draws (s : State) : (setInvalidCookie s).draws = s.draws := rfl
@[simp] theorem setInvalidCookie_stream (s : State) : (setInvalidCookie s).stream = s.stream := rfl
@[simp] theorem setInvalidCookie_readData (s : State) : (setInvalidCookie s).readData = s.readData := rfl
@[simp] theorem setInvalidCookie_unitOut (s : State) : (setInvalidCookie s).unitOut = s.unitOut := rfl

/-! ### setValid -/

@[simp] theorem setValid_irqEn (s : State) : (setValid s).irqEn = s.irqEn := rfl
@[simp] theorem setValid_op (s : State) : (setValid s).op = s.op := rfl
@[simp] theorem setValid_done (s : State) : (setValid s).done = s.done := rfl
@[simp] theorem setValid_errOp (s : State) : (setValid s).errOp = s.errOp := rfl
@[simp] theorem setValid_errBusy (s : State) : (setValid s).errBusy = s.errBusy := rfl
@[simp] theorem setValid_errFamily (s : State) : (setValid s).errFamily = s.errFamily := rfl
@[simp] theorem setValid_outcome (s : State) : (setValid s).outcome = s.outcome := rfl
@[simp] theorem setValid_inLen (s : State) : (setValid s).inLen = s.inLen := rfl
@[simp] theorem setValid_peerFamily (s : State) : (setValid s).peerFamily = s.peerFamily := rfl
@[simp] theorem setValid_peerPort (s : State) : (setValid s).peerPort = s.peerPort := rfl
@[simp] theorem setValid_peerAddr (s : State) : (setValid s).peerAddr = s.peerAddr := rfl
@[simp] theorem setValid_inHdr (s : State) : (setValid s).inHdr = s.inHdr := rfl
@[simp] theorem setValid_outLen (s : State) : (setValid s).outLen = s.outLen := rfl
@[simp] theorem setValid_outBuf (s : State) : (setValid s).outBuf = s.outBuf := rfl
@[simp] theorem setValid_lLen (s : State) : (setValid s).lLen = s.lLen := rfl
@[simp] theorem setValid_lHdr (s : State) : (setValid s).lHdr = s.lHdr := rfl
@[simp] theorem setValid_lFamily (s : State) : (setValid s).lFamily = s.lFamily := rfl
@[simp] theorem setValid_lPort (s : State) : (setValid s).lPort = s.lPort := rfl
@[simp] theorem setValid_lAddr (s : State) : (setValid s).lAddr = s.lAddr := rfl
@[simp] theorem setValid_hType (s : State) : (setValid s).hType = s.hType := rfl
@[simp] theorem setValid_hMlen (s : State) : (setValid s).hMlen = s.hMlen := rfl
@[simp] theorem setValid_hCookie (s : State) : (setValid s).hCookie = s.hCookie := rfl
@[simp] theorem setValid_hTxid (s : State) : (setValid s).hTxid = s.hTxid := rfl
@[simp] theorem setValid_vout (s : State) : (setValid s).vout = .valid := rfl
@[simp] theorem setValid_quad (s : State) : (setValid s).quad = ⟨0#16, 0#16, 0#16, 0#16⟩ := rfl
@[simp] theorem setValid_resp (s : State) : (setValid s).resp = s.resp := rfl
@[simp] theorem setValid_respOutcome (s : State) : (setValid s).respOutcome = s.respOutcome := rfl
@[simp] theorem setValid_eng (s : State) : (setValid s).eng = s.eng := rfl
@[simp] theorem setValid_events (s : State) : (setValid s).events = s.events := rfl
@[simp] theorem setValid_draws (s : State) : (setValid s).draws = s.draws := rfl
@[simp] theorem setValid_stream (s : State) : (setValid s).stream = s.stream := rfl
@[simp] theorem setValid_readData (s : State) : (setValid s).readData = s.readData := rfl
@[simp] theorem setValid_unitOut (s : State) : (setValid s).unitOut = s.unitOut := rfl

/-! ### respond -/

@[simp] theorem respond_irqEn (frame : List Byte) (o : BitVec 4) (s : State) : (respond frame o s).irqEn = s.irqEn := rfl
@[simp] theorem respond_op (frame : List Byte) (o : BitVec 4) (s : State) : (respond frame o s).op = s.op := rfl
@[simp] theorem respond_done (frame : List Byte) (o : BitVec 4) (s : State) : (respond frame o s).done = s.done := rfl
@[simp] theorem respond_errOp (frame : List Byte) (o : BitVec 4) (s : State) : (respond frame o s).errOp = s.errOp := rfl
@[simp] theorem respond_errBusy (frame : List Byte) (o : BitVec 4) (s : State) : (respond frame o s).errBusy = s.errBusy := rfl
@[simp] theorem respond_errFamily (frame : List Byte) (o : BitVec 4) (s : State) : (respond frame o s).errFamily = s.errFamily := rfl
@[simp] theorem respond_outcome (frame : List Byte) (o : BitVec 4) (s : State) : (respond frame o s).outcome = s.outcome := rfl
@[simp] theorem respond_inLen (frame : List Byte) (o : BitVec 4) (s : State) : (respond frame o s).inLen = s.inLen := rfl
@[simp] theorem respond_peerFamily (frame : List Byte) (o : BitVec 4) (s : State) : (respond frame o s).peerFamily = s.peerFamily := rfl
@[simp] theorem respond_peerPort (frame : List Byte) (o : BitVec 4) (s : State) : (respond frame o s).peerPort = s.peerPort := rfl
@[simp] theorem respond_peerAddr (frame : List Byte) (o : BitVec 4) (s : State) : (respond frame o s).peerAddr = s.peerAddr := rfl
@[simp] theorem respond_inHdr (frame : List Byte) (o : BitVec 4) (s : State) : (respond frame o s).inHdr = s.inHdr := rfl
@[simp] theorem respond_outLen (frame : List Byte) (o : BitVec 4) (s : State) : (respond frame o s).outLen = s.outLen := rfl
@[simp] theorem respond_outBuf (frame : List Byte) (o : BitVec 4) (s : State) : (respond frame o s).outBuf = s.outBuf := rfl
@[simp] theorem respond_lLen (frame : List Byte) (o : BitVec 4) (s : State) : (respond frame o s).lLen = s.lLen := rfl
@[simp] theorem respond_lHdr (frame : List Byte) (o : BitVec 4) (s : State) : (respond frame o s).lHdr = s.lHdr := rfl
@[simp] theorem respond_lFamily (frame : List Byte) (o : BitVec 4) (s : State) : (respond frame o s).lFamily = s.lFamily := rfl
@[simp] theorem respond_lPort (frame : List Byte) (o : BitVec 4) (s : State) : (respond frame o s).lPort = s.lPort := rfl
@[simp] theorem respond_lAddr (frame : List Byte) (o : BitVec 4) (s : State) : (respond frame o s).lAddr = s.lAddr := rfl
@[simp] theorem respond_hType (frame : List Byte) (o : BitVec 4) (s : State) : (respond frame o s).hType = s.hType := rfl
@[simp] theorem respond_hMlen (frame : List Byte) (o : BitVec 4) (s : State) : (respond frame o s).hMlen = s.hMlen := rfl
@[simp] theorem respond_hCookie (frame : List Byte) (o : BitVec 4) (s : State) : (respond frame o s).hCookie = s.hCookie := rfl
@[simp] theorem respond_hTxid (frame : List Byte) (o : BitVec 4) (s : State) : (respond frame o s).hTxid = s.hTxid := rfl
@[simp] theorem respond_vout (frame : List Byte) (o : BitVec 4) (s : State) : (respond frame o s).vout = s.vout := rfl
@[simp] theorem respond_quad (frame : List Byte) (o : BitVec 4) (s : State) : (respond frame o s).quad = s.quad := rfl
@[simp] theorem respond_resp (frame : List Byte) (o : BitVec 4) (s : State) : (respond frame o s).resp = frame := rfl
@[simp] theorem respond_respOutcome (frame : List Byte) (o : BitVec 4) (s : State) : (respond frame o s).respOutcome = o := rfl
@[simp] theorem respond_eng (frame : List Byte) (o : BitVec 4) (s : State) : (respond frame o s).eng = s.eng := rfl
@[simp] theorem respond_events (frame : List Byte) (o : BitVec 4) (s : State) : (respond frame o s).events = s.events := rfl
@[simp] theorem respond_draws (frame : List Byte) (o : BitVec 4) (s : State) : (respond frame o s).draws = s.draws := rfl
@[simp] theorem respond_stream (frame : List Byte) (o : BitVec 4) (s : State) : (respond frame o s).stream = s.stream := rfl
@[simp] theorem respond_readData (frame : List Byte) (o : BitVec 4) (s : State) : (respond frame o s).readData = s.readData := rfl
@[simp] theorem respond_unitOut (frame : List Byte) (o : BitVec 4) (s : State) : (respond frame o s).unitOut = s.unitOut := rfl

/-! ### commit -/

@[simp] theorem commit_irqEn (s : State) : (commit s).irqEn = s.irqEn := rfl
@[simp] theorem commit_op (s : State) : (commit s).op = s.op := rfl
@[simp] theorem commit_done (s : State) : (commit s).done = true := rfl
@[simp] theorem commit_errOp (s : State) : (commit s).errOp = s.errOp := rfl
@[simp] theorem commit_errBusy (s : State) : (commit s).errBusy = s.errBusy := rfl
@[simp] theorem commit_errFamily (s : State) : (commit s).errFamily = s.errFamily := rfl
@[simp] theorem commit_outcome (s : State) : (commit s).outcome = s.respOutcome := rfl
@[simp] theorem commit_inLen (s : State) : (commit s).inLen = s.inLen := rfl
@[simp] theorem commit_peerFamily (s : State) : (commit s).peerFamily = s.peerFamily := rfl
@[simp] theorem commit_peerPort (s : State) : (commit s).peerPort = s.peerPort := rfl
@[simp] theorem commit_peerAddr (s : State) : (commit s).peerAddr = s.peerAddr := rfl
@[simp] theorem commit_inHdr (s : State) : (commit s).inHdr = s.inHdr := rfl
@[simp] theorem commit_outLen (s : State) : (commit s).outLen = lengthField s.resp := rfl
@[simp] theorem commit_outBuf (s : State) : (commit s).outBuf = Vector.ofFn fun i => s.resp.getD i.val 0x00#8 := rfl
@[simp] theorem commit_lLen (s : State) : (commit s).lLen = s.lLen := rfl
@[simp] theorem commit_lHdr (s : State) : (commit s).lHdr = s.lHdr := rfl
@[simp] theorem commit_lFamily (s : State) : (commit s).lFamily = s.lFamily := rfl
@[simp] theorem commit_lPort (s : State) : (commit s).lPort = s.lPort := rfl
@[simp] theorem commit_lAddr (s : State) : (commit s).lAddr = s.lAddr := rfl
@[simp] theorem commit_hType (s : State) : (commit s).hType = s.hType := rfl
@[simp] theorem commit_hMlen (s : State) : (commit s).hMlen = s.hMlen := rfl
@[simp] theorem commit_hCookie (s : State) : (commit s).hCookie = s.hCookie := rfl
@[simp] theorem commit_hTxid (s : State) : (commit s).hTxid = s.hTxid := rfl
@[simp] theorem commit_vout (s : State) : (commit s).vout = s.vout := rfl
@[simp] theorem commit_quad (s : State) : (commit s).quad = s.quad := rfl
@[simp] theorem commit_resp (s : State) : (commit s).resp = s.resp := rfl
@[simp] theorem commit_respOutcome (s : State) : (commit s).respOutcome = s.respOutcome := rfl
@[simp] theorem commit_eng (s : State) : (commit s).eng = .idle := rfl
@[simp] theorem commit_events (s : State) : (commit s).events = s.events := rfl
@[simp] theorem commit_draws (s : State) : (commit s).draws = s.draws := rfl
@[simp] theorem commit_stream (s : State) : (commit s).stream = s.stream := rfl
@[simp] theorem commit_readData (s : State) : (commit s).readData = s.readData := rfl
@[simp] theorem commit_unitOut (s : State) : (commit s).unitOut = s.unitOut := rfl

/-! ### returnUnit -/

@[simp] theorem returnUnit_irqEn (d : Datum) (s : State) : (returnUnit d s).irqEn = s.irqEn := rfl
@[simp] theorem returnUnit_op (d : Datum) (s : State) : (returnUnit d s).op = s.op := rfl
@[simp] theorem returnUnit_done (d : Datum) (s : State) : (returnUnit d s).done = s.done := rfl
@[simp] theorem returnUnit_errOp (d : Datum) (s : State) : (returnUnit d s).errOp = s.errOp := rfl
@[simp] theorem returnUnit_errBusy (d : Datum) (s : State) : (returnUnit d s).errBusy = s.errBusy := rfl
@[simp] theorem returnUnit_errFamily (d : Datum) (s : State) : (returnUnit d s).errFamily = s.errFamily := rfl
@[simp] theorem returnUnit_outcome (d : Datum) (s : State) : (returnUnit d s).outcome = s.outcome := rfl
@[simp] theorem returnUnit_inLen (d : Datum) (s : State) : (returnUnit d s).inLen = s.inLen := rfl
@[simp] theorem returnUnit_peerFamily (d : Datum) (s : State) : (returnUnit d s).peerFamily = s.peerFamily := rfl
@[simp] theorem returnUnit_peerPort (d : Datum) (s : State) : (returnUnit d s).peerPort = s.peerPort := rfl
@[simp] theorem returnUnit_peerAddr (d : Datum) (s : State) : (returnUnit d s).peerAddr = s.peerAddr := rfl
@[simp] theorem returnUnit_inHdr (d : Datum) (s : State) : (returnUnit d s).inHdr = s.inHdr := rfl
@[simp] theorem returnUnit_outLen (d : Datum) (s : State) : (returnUnit d s).outLen = s.outLen := rfl
@[simp] theorem returnUnit_outBuf (d : Datum) (s : State) : (returnUnit d s).outBuf = s.outBuf := rfl
@[simp] theorem returnUnit_lLen (d : Datum) (s : State) : (returnUnit d s).lLen = s.lLen := rfl
@[simp] theorem returnUnit_lHdr (d : Datum) (s : State) : (returnUnit d s).lHdr = s.lHdr := rfl
@[simp] theorem returnUnit_lFamily (d : Datum) (s : State) : (returnUnit d s).lFamily = s.lFamily := rfl
@[simp] theorem returnUnit_lPort (d : Datum) (s : State) : (returnUnit d s).lPort = s.lPort := rfl
@[simp] theorem returnUnit_lAddr (d : Datum) (s : State) : (returnUnit d s).lAddr = s.lAddr := rfl
@[simp] theorem returnUnit_hType (d : Datum) (s : State) : (returnUnit d s).hType = s.hType := rfl
@[simp] theorem returnUnit_hMlen (d : Datum) (s : State) : (returnUnit d s).hMlen = s.hMlen := rfl
@[simp] theorem returnUnit_hCookie (d : Datum) (s : State) : (returnUnit d s).hCookie = s.hCookie := rfl
@[simp] theorem returnUnit_hTxid (d : Datum) (s : State) : (returnUnit d s).hTxid = s.hTxid := rfl
@[simp] theorem returnUnit_vout (d : Datum) (s : State) : (returnUnit d s).vout = s.vout := rfl
@[simp] theorem returnUnit_quad (d : Datum) (s : State) : (returnUnit d s).quad = s.quad := rfl
@[simp] theorem returnUnit_resp (d : Datum) (s : State) : (returnUnit d s).resp = s.resp := rfl
@[simp] theorem returnUnit_respOutcome (d : Datum) (s : State) : (returnUnit d s).respOutcome = s.respOutcome := rfl
@[simp] theorem returnUnit_eng (d : Datum) (s : State) : (returnUnit d s).eng = s.eng := rfl
@[simp] theorem returnUnit_events (d : Datum) (s : State) : (returnUnit d s).events = s.events := rfl
@[simp] theorem returnUnit_draws (d : Datum) (s : State) : (returnUnit d s).draws = s.draws := rfl
@[simp] theorem returnUnit_stream (d : Datum) (s : State) : (returnUnit d s).stream = s.stream := rfl
@[simp] theorem returnUnit_readData (d : Datum) (s : State) : (returnUnit d s).readData = s.readData := rfl
@[simp] theorem returnUnit_unitOut (d : Datum) (s : State) : (returnUnit d s).unitOut = d := rfl

/-! ### writeReg: only its own data register changes -/

@[simp] theorem writeReg_irqEn (r : Reg) (v : Word) (s : State) : (writeReg r v s).irqEn = s.irqEn := by cases r <;> rfl
@[simp] theorem writeReg_op (r : Reg) (v : Word) (s : State) : (writeReg r v s).op = s.op := by cases r <;> rfl
@[simp] theorem writeReg_done (r : Reg) (v : Word) (s : State) : (writeReg r v s).done = s.done := by cases r <;> rfl
@[simp] theorem writeReg_errOp (r : Reg) (v : Word) (s : State) : (writeReg r v s).errOp = s.errOp := by cases r <;> rfl
@[simp] theorem writeReg_errBusy (r : Reg) (v : Word) (s : State) : (writeReg r v s).errBusy = s.errBusy := by cases r <;> rfl
@[simp] theorem writeReg_errFamily (r : Reg) (v : Word) (s : State) : (writeReg r v s).errFamily = s.errFamily := by cases r <;> rfl
@[simp] theorem writeReg_outcome (r : Reg) (v : Word) (s : State) : (writeReg r v s).outcome = s.outcome := by cases r <;> rfl
@[simp] theorem writeReg_outLen (r : Reg) (v : Word) (s : State) : (writeReg r v s).outLen = s.outLen := by cases r <;> rfl
@[simp] theorem writeReg_outBuf (r : Reg) (v : Word) (s : State) : (writeReg r v s).outBuf = s.outBuf := by cases r <;> rfl
@[simp] theorem writeReg_lLen (r : Reg) (v : Word) (s : State) : (writeReg r v s).lLen = s.lLen := by cases r <;> rfl
@[simp] theorem writeReg_lHdr (r : Reg) (v : Word) (s : State) : (writeReg r v s).lHdr = s.lHdr := by cases r <;> rfl
@[simp] theorem writeReg_lFamily (r : Reg) (v : Word) (s : State) : (writeReg r v s).lFamily = s.lFamily := by cases r <;> rfl
@[simp] theorem writeReg_lPort (r : Reg) (v : Word) (s : State) : (writeReg r v s).lPort = s.lPort := by cases r <;> rfl
@[simp] theorem writeReg_lAddr (r : Reg) (v : Word) (s : State) : (writeReg r v s).lAddr = s.lAddr := by cases r <;> rfl
@[simp] theorem writeReg_hType (r : Reg) (v : Word) (s : State) : (writeReg r v s).hType = s.hType := by cases r <;> rfl
@[simp] theorem writeReg_hMlen (r : Reg) (v : Word) (s : State) : (writeReg r v s).hMlen = s.hMlen := by cases r <;> rfl
@[simp] theorem writeReg_hCookie (r : Reg) (v : Word) (s : State) : (writeReg r v s).hCookie = s.hCookie := by cases r <;> rfl
@[simp] theorem writeReg_hTxid (r : Reg) (v : Word) (s : State) : (writeReg r v s).hTxid = s.hTxid := by cases r <;> rfl
@[simp] theorem writeReg_vout (r : Reg) (v : Word) (s : State) : (writeReg r v s).vout = s.vout := by cases r <;> rfl
@[simp] theorem writeReg_quad (r : Reg) (v : Word) (s : State) : (writeReg r v s).quad = s.quad := by cases r <;> rfl
@[simp] theorem writeReg_resp (r : Reg) (v : Word) (s : State) : (writeReg r v s).resp = s.resp := by cases r <;> rfl
@[simp] theorem writeReg_respOutcome (r : Reg) (v : Word) (s : State) : (writeReg r v s).respOutcome = s.respOutcome := by cases r <;> rfl
@[simp] theorem writeReg_eng (r : Reg) (v : Word) (s : State) : (writeReg r v s).eng = s.eng := by cases r <;> rfl
@[simp] theorem writeReg_events (r : Reg) (v : Word) (s : State) : (writeReg r v s).events = s.events := by cases r <;> rfl
@[simp] theorem writeReg_draws (r : Reg) (v : Word) (s : State) : (writeReg r v s).draws = s.draws := by cases r <;> rfl
@[simp] theorem writeReg_stream (r : Reg) (v : Word) (s : State) : (writeReg r v s).stream = s.stream := by cases r <;> rfl
@[simp] theorem writeReg_readData (r : Reg) (v : Word) (s : State) : (writeReg r v s).readData = s.readData := by cases r <;> rfl
@[simp] theorem writeReg_unitOut (r : Reg) (v : Word) (s : State) : (writeReg r v s).unitOut = s.unitOut := by cases r <;> rfl

end Sys2Proof.Machine
end

