-- ==== Sys2Proof/Laws/Ops.lean ====
section
/-! SUPPORT. What each shared operation can do, said once: validation, the builders, PROCESS, the engine's turn, CTRL writes, host
writes, and one step. -/

namespace Sys2Proof.Machine

@[simp] theorem busy_eq_true {s : State} : s.busy = true ↔ s.eng = .busy := by simp [State.busy]

@[simp] theorem busy_eq_false {s : State} : s.busy = false ↔ s.eng = .idle := by
  unfold State.busy; cases h : s.eng <;> simp

theorem eng_idle_or_busy (s : State) : s.eng = .idle ∨ s.eng = .busy := by cases h : s.eng <;> simp

@[simp] theorem shortFrame_eq_true {len : Word} : shortFrame len = true ↔ len.toNat < 20 := decide_eq_true_iff

@[simp] theorem shortFrame_eq_false {len : Word} : shortFrame len = false ↔ 20 ≤ len.toNat :=
  decide_eq_false_iff_not.trans Nat.not_lt

@[simp] theorem legalFamily_eq_true {f : Byte} : legalFamily f = true ↔ f = 0x01#8 ∨ f = 0x02#8 := by
  simp [legalFamily, Config.familyV4, Config.familyV6]

/-! ## Validation -/

/-- The three outcomes of VALIDATE (R163). -/
theorem validate_cases (s : State) :
    (s.hType ≠ Config.typeBindingRequest ∧ validate s = setInvalidType s) ∨
    (s.hType = Config.typeBindingRequest ∧ s.hCookie ≠ Config.magicCookie ∧ validate s = setInvalidCookie s) ∨
    (s.hType = Config.typeBindingRequest ∧ s.hCookie = Config.magicCookie ∧ validate s = setValid s) := by
  unfold validate validateCookie
  split
  · exact .inl ⟨‹_›, rfl⟩
  · split
    · exact .inr (.inl ⟨by simp_all, ‹_›, rfl⟩)
    · exact .inr (.inr ⟨by simp_all, by simp_all, rfl⟩)

/-- VALIDATE writes VOUT and QUAD only. -/
theorem validate_frame (s : State) : validate s = { s with vout := (validate s).vout, quad := (validate s).quad } := by
  obtain ⟨-, h⟩ | ⟨-, -, h⟩ | ⟨-, -, h⟩ := validate_cases s <;> rw [h] <;> rfl

/-! ## PROCESS -/

/-- BUILD_SUCCESS answers a next state only for a legal family (R210). -/
theorem buildSuccess_cases {s t : State} (h : buildSuccess s = .next t) :
    (s.lFamily = Config.familyV4 ∧ t = buildSuccessV4 s) ∨ (s.lFamily = Config.familyV6 ∧ t = buildSuccessV6 s) := by
  unfold buildSuccess at h
  split at h
  · exact .inl ⟨‹_›, by simpa using h.symm⟩
  · split at h
    · exact .inr ⟨‹_›, by simpa using h.symm⟩
    · cases h

/-- The five ways PROCESS answers (R240), each with the state the builder reads. -/
theorem process_cases {s t : State} (h : process s = .next t) :
    (s.lLen.toNat < 20 ∧ t = buildError s) ∨
    (20 ≤ s.lLen.toNat ∧ (decodeHeader s).hType ≠ Config.typeBindingRequest ∧
      t = buildError420Type (setInvalidType (decodeHeader s))) ∨
    (20 ≤ s.lLen.toNat ∧ (decodeHeader s).hType = Config.typeBindingRequest ∧ (decodeHeader s).hCookie ≠ Config.magicCookie ∧
      t = buildError420Cookie (setInvalidCookie (decodeHeader s))) ∨
    (20 ≤ s.lLen.toNat ∧ (decodeHeader s).hType = Config.typeBindingRequest ∧ (decodeHeader s).hCookie = Config.magicCookie ∧
      ((s.lFamily = Config.familyV4 ∧ t = buildSuccessV4 (setValid (decodeHeader s))) ∨
        (s.lFamily = Config.familyV6 ∧ t = buildSuccessV6 (setValid (decodeHeader s))))) := by
  unfold process at h
  split at h
  · rename_i hs
    exact .inl ⟨by simpa using hs, by simpa using h.symm⟩
  · rename_i hs
    have hl : 20 ≤ s.lLen.toNat := by simpa using hs
    obtain ⟨hty, hv⟩ | ⟨hty, hc, hv⟩ | ⟨hty, hc, hv⟩ := validate_cases (decodeHeader s) <;>
      simp only [hv, setInvalidType_vout, setInvalidCookie_vout, setValid_vout] at h
    · exact .inr (.inl ⟨hl, hty, by simpa using h.symm⟩)
    · exact .inr (.inr (.inl ⟨hl, hty, hc, by simpa using h.symm⟩))
    · exact .inr (.inr (.inr ⟨hl, hty, hc, by simpa using buildSuccess_cases h⟩))

/-- PROCESS completes on every latch with a legal family (R247). -/
theorem process_completes {s : State} (hf : s.lFamily = Config.familyV4 ∨ s.lFamily = Config.familyV6) :
    ∃ t, process s = .next t := by
  unfold process
  split
  · exact ⟨_, rfl⟩
  · have hf' : (validate (decodeHeader s)).lFamily = s.lFamily := by rw [validate_frame]; rfl
    dsimp only
    split
    · unfold buildSuccess
      rw [hf']
      obtain h | h := hf <;> rw [h] <;> exact ⟨_, rfl⟩
    · exact ⟨_, rfl⟩
    · exact ⟨_, rfl⟩

/-- PROCESS writes the datapath registers only (R240, R222). -/
theorem process_frame {s t : State} (h : process s = .next t) :
    t = { s with
      hType := t.hType, hMlen := t.hMlen, hCookie := t.hCookie, hTxid := t.hTxid, vout := t.vout, quad := t.quad
      resp := t.resp, respOutcome := t.respOutcome } := by
  obtain ⟨-, rfl⟩ | ⟨-, -, rfl⟩ | ⟨-, -, -, rfl⟩ | ⟨-, -, -, ⟨-, rfl⟩ | ⟨-, rfl⟩⟩ := process_cases h <;> rfl

/-- The engine's turn: nothing while IDLE, PROCESS and its commit while BUSY (R249). -/
theorem engineTurn_cases {s t : State} (h : engineTurn s = .next t) :
    (s.eng = .idle ∧ t = s) ∨ (s.eng = .busy ∧ ∃ u, process s = .next u ∧ t = commit u) := by
  unfold engineTurn at h
  split at h
  · exact .inl ⟨‹_›, by simpa using h.symm⟩
  · refine .inr ⟨‹_›, ?_⟩
    split at h
    · exact ⟨_, ‹_›, by simpa using h.symm⟩
    · cases h
    · cases h

/-! ## Host writes -/

/-- A match on the low byte of a word is a match on its low byte. -/
theorem rowMatches_lowByte (v : Word) (p m : BitVec 8) :
    rowMatches (p.setWidth 32) (m.setWidth 32) v = rowMatches p m (v.setWidth 8) := by
  simp only [rowMatches, Bool.beq_eq_decide_eq]
  congr 1
  apply propext
  constructor <;> intro h
  · ext i hi
    have := congrArg (fun x => x.getLsbD i) h
    simpa [BitVec.getLsbD_setWidth, hi, show i < 32 by omega] using this
  · ext i hi
    have := congrArg (fun x => x.getLsbD i) h
    by_cases h8 : i < 8
    · simpa [BitVec.getLsbD_setWidth, h8, hi, ← BitVec.getLsbD_eq_getElem] using this
    · simp [← BitVec.getLsbD_eq_getElem, BitVec.getLsbD_setWidth, BitVec.getLsbD_of_ge _ _ (show 8 ≤ i by omega)]

/-- The masks of the CTRL_WR rows, read as the bits they test: SOFT_RESET, START, and OP beside START. -/
theorem ctrlMasks (v : Word) :
    rowMatches 0x00000002#32 0x00000002#32 v = v.getLsbD 1 ∧
    rowMatches 0x00000000#32 0x00000003#32 v = (!v.getLsbD 1 && !v.getLsbD 0) ∧
    rowMatches 0x00000001#32 0x00000003#32 v = (!v.getLsbD 1 && v.getLsbD 0) ∧
    rowMatches 0x00000011#32 0x000000F3#32 v = (!v.getLsbD 1 && v.getLsbD 0 && decide (v.extractLsb' 4 4 = 0x1#4)) := by
  have e0 : v.getLsbD 0 = (v.setWidth 8).getLsbD 0 := by simp
  have e1 : v.getLsbD 1 = (v.setWidth 8).getLsbD 1 := by simp
  have e4 : v.extractLsb' 4 4 = (v.setWidth 8).extractLsb' 4 4 := by
    ext i hi
    simp [show 4 + i < 8 by omega, BitVec.getElem_extractLsb']
  have l2 := rowMatches_lowByte v 0x02#8 0x02#8
  have l0 := rowMatches_lowByte v 0x00#8 0x03#8
  have l1 := rowMatches_lowByte v 0x01#8 0x03#8
  have l11 := rowMatches_lowByte v 0x11#8 0xF3#8
  rw [e0, e1, e4]
  refine ⟨l2.trans ?_, l0.trans ?_, l1.trans ?_, l11.trans ?_⟩ <;> generalize v.setWidth 8 = x <;> revert x <;> decide

/-- The rows of a CTRL write, with their conditions (R110). -/
theorem ctrlRow_cases (v : Word) (busy : Bool) (f : Byte) :
    (v.getLsbD 1 = true ∧ ctrlRow v busy f = .softReset) ∨
    (v.getLsbD 1 = false ∧ v.getLsbD 0 = false ∧ ctrlRow v busy f = .config) ∨
    (v.getLsbD 1 = false ∧ v.getLsbD 0 = true ∧ busy = true ∧ ctrlRow v busy f = .startBusy) ∨
    (v.getLsbD 1 = false ∧ v.getLsbD 0 = true ∧ busy = false ∧ v.extractLsb' 4 4 ≠ 0x1#4 ∧
      ctrlRow v busy f = .startReservedOp) ∨
    (v.getLsbD 1 = false ∧ v.getLsbD 0 = true ∧ busy = false ∧ v.extractLsb' 4 4 = 0x1#4 ∧ ¬ (f = 0x01#8 ∨ f = 0x02#8) ∧
      ctrlRow v busy f = .startBadFamily) ∨
    (v.getLsbD 1 = false ∧ v.getLsbD 0 = true ∧ busy = false ∧ v.extractLsb' 4 4 = 0x1#4 ∧ (f = 0x01#8 ∨ f = 0x02#8) ∧
      ctrlRow v busy f = .process) := by
  obtain ⟨m2, -, m1, m11⟩ := ctrlMasks v
  unfold ctrlRow
  rw [m2, m1, m11]
  cases hv1 : v.getLsbD 1
  · cases hv0 : v.getLsbD 0
    · simp
    · cases busy
      · by_cases hop : v.extractLsb' 4 4 = 0x1#4
        · by_cases hf : legalFamily f = true
          · have := legalFamily_eq_true.mp hf
            simp [hop, hf, this]
          · have := mt legalFamily_eq_true.mpr hf
            simp only [Bool.not_eq_true] at hf
            simp [hop, hf, this]
        · simp [hop]
      · simp
  · simp

/-- A CTRL_WR row acts as a CTRL write of its value: in every state, as the first matching row (R110). -/
theorem asCtrlRow_eq (row : CtrlRow) (v : Word) (s : State) :
    asCtrlRow row v (ctrlEffect row v) s = ctrlWrite v s := by
  unfold asCtrlRow ctrlWrite
  split
  · rename_i h; rw [h]
  · rfl

/-- Where the state selects the row, a CTRL_WR row has its own effect. -/
theorem asCtrlRow_selected {row : CtrlRow} {v : Word} {effect : State → State} {s : State}
    (h : ctrlRow v s.busy s.peerFamily = row) : asCtrlRow row v effect s = effect s := by
  simp [asCtrlRow, h]

/-- What a CTRL write can do (R272 to R278). -/
theorem ctrlWrite_cases (v : Word) (s : State) :
    (v.getLsbD 1 = true ∧ ctrlWrite v s = resetInstance s) ∨
    (v.getLsbD 1 = false ∧ v.getLsbD 0 = false ∧ ctrlWrite v s = storeCtrl v s) ∨
    (v.getLsbD 1 = false ∧ v.getLsbD 0 = true ∧ s.eng = .busy ∧ ctrlWrite v s = refuseBusy v s) ∨
    (v.getLsbD 1 = false ∧ v.getLsbD 0 = true ∧ s.eng = .idle ∧ v.extractLsb' 4 4 ≠ 0x1#4 ∧ ctrlWrite v s = refuseOp v s) ∨
    (v.getLsbD 1 = false ∧ v.getLsbD 0 = true ∧ s.eng = .idle ∧ v.extractLsb' 4 4 = 0x1#4 ∧
      ¬ (s.peerFamily = 0x01#8 ∨ s.peerFamily = 0x02#8) ∧ ctrlWrite v s = refuseFamily v s) ∨
    (v.getLsbD 1 = false ∧ v.getLsbD 0 = true ∧ s.eng = .idle ∧ v.extractLsb' 4 4 = 0x1#4 ∧
      (s.peerFamily = 0x01#8 ∨ s.peerFamily = 0x02#8) ∧ ctrlWrite v s = acceptStart v s) := by
  have hb : ∀ b, s.busy = b → b = s.busy := fun _ h => h.symm
  obtain ⟨a, h⟩ | ⟨a, b, h⟩ | ⟨a, b, c, h⟩ | ⟨a, b, c, d, h⟩ | ⟨a, b, c, d, e, h⟩ | ⟨a, b, c, d, e, h⟩ :=
    ctrlRow_cases v s.busy s.peerFamily <;> simp only [ctrlWrite, h, ctrlEffect] <;> simp_all

/-- A data write leaves the reading of every other register. -/
theorem readReg_writeReg_ne {r r' : Reg} (h : r' ≠ r) (v : Word) (s : State) : readReg (writeReg r v s) r' = readReg s r' := by
  cases r <;> cases r' <;> first
    | rfl
    | exact absurd rfl h
    | (simp only [ne_eq, Reg.peerAddr.injEq, Reg.inHdr.injEq] at h
       simp only [writeReg, readReg, Fin.getElem_fin]
       exact Vector.getElem_set_ne _ _ (fun he => h (Fin.ext he.symm)))

/-- No other word index names a data register. -/
theorem regAt_ne {idx j : BitVec 6} (hd : isDataIndex idx = true) (h : j ≠ idx) : regAt j ≠ regAt idx := by
  have : ∀ idx, isDataIndex idx = true → ∀ j, regAt j = regAt idx → j = idx := by decide
  exact mt (this idx hd j) h

end Sys2Proof.Machine
end

