-- ==== Sys2Proof/Laws/Step.lean ====
section
/-! SUPPORT. What one step can do, said once (`step_cases`): the lemma every rule of the whole machine is proved from. -/

namespace Sys2Proof.Machine

/-- The instructions that neither a host access nor the engine's turn is: they run inside the datapath. -/
def isInternal : Instr → Bool
  | .hostRd _ => false
  | .hostWr _ _ => false
  | .hostWrIgnored _ _ => false
  | .cmdSoftReset _ => false
  | .startBusy _ => false
  | .startReservedOp _ => false
  | .startBadFamily _ => false
  | .cmdProcess _ => false
  | .ctrlConfig _ => false
  | .statusW1c _ => false
  | .engineCommit => false
  | _ => true

/-- t is u but for the datapath registers and the result port, and RESP, where it changed, has a legal length and outcome. -/
def DatapathOnly (u t : State) : Prop :=
  t = { u with
    hType := t.hType, hMlen := t.hMlen, hCookie := t.hCookie, hTxid := t.hTxid, vout := t.vout, quad := t.quad
    resp := t.resp, respOutcome := t.respOutcome, unitOut := t.unitOut } ∧
  ((t.resp = u.resp ∧ t.respOutcome = u.respOutcome) ∨
    (t.resp.length = frameLength t.respOutcome ∧ t.respOutcome.toNat ≤ 5 ∧ 0 < t.resp.length))

theorem datapathOnly_decodeHeader (u : State) : DatapathOnly u (decodeHeader u) := ⟨rfl, .inl ⟨rfl, rfl⟩⟩
theorem datapathOnly_setInvalidType (u : State) : DatapathOnly u (setInvalidType u) := ⟨rfl, .inl ⟨rfl, rfl⟩⟩
theorem datapathOnly_setInvalidCookie (u : State) : DatapathOnly u (setInvalidCookie u) := ⟨rfl, .inl ⟨rfl, rfl⟩⟩
theorem datapathOnly_setValid (u : State) : DatapathOnly u (setValid u) := ⟨rfl, .inl ⟨rfl, rfl⟩⟩
theorem datapathOnly_returnUnit (d : Datum) (u : State) : DatapathOnly u (returnUnit d u) := ⟨rfl, .inl ⟨rfl, rfl⟩⟩

theorem datapathOnly_validate (u : State) : DatapathOnly u (validate u) := by
  obtain ⟨-, h⟩ | ⟨-, -, h⟩ | ⟨-, -, h⟩ := validate_cases u <;> rw [h]
  · exact datapathOnly_setInvalidType u
  · exact datapathOnly_setInvalidCookie u
  · exact datapathOnly_setValid u

theorem datapathOnly_buildError (u : State) : DatapathOnly u (buildError u) :=
  ⟨rfl, .inr ⟨by simp only [buildError, respond_resp, respond_respOutcome, errorFrame_length]; decide,
    by simp only [buildError, respond_respOutcome]; decide, by simp [buildError]⟩⟩

theorem datapathOnly_buildError420Type (u : State) : DatapathOnly u (buildError420Type u) :=
  ⟨rfl, .inr ⟨by simp only [buildError420Type, respond_resp, respond_respOutcome, unknownFrame_length]; decide,
    by simp only [buildError420Type, respond_respOutcome]; decide, by simp [buildError420Type]⟩⟩

theorem datapathOnly_buildError420Cookie (u : State) : DatapathOnly u (buildError420Cookie u) :=
  ⟨rfl, .inr ⟨by simp only [buildError420Cookie, respond_resp, respond_respOutcome, unknownFrame_length]; decide,
    by simp only [buildError420Cookie, respond_respOutcome]; decide, by simp [buildError420Cookie]⟩⟩

theorem datapathOnly_buildSuccessV4 (u : State) : DatapathOnly u (buildSuccessV4 u) :=
  ⟨rfl, .inr ⟨by simp only [buildSuccessV4, respond_resp, respond_respOutcome, successFrameV4_length]; decide,
    by simp only [buildSuccessV4, respond_respOutcome]; decide, by simp [buildSuccessV4]⟩⟩

theorem datapathOnly_buildSuccessV6 (u : State) : DatapathOnly u (buildSuccessV6 u) :=
  ⟨rfl, .inr ⟨by simp only [buildSuccessV6, respond_resp, respond_respOutcome, successFrameV6_length]; decide,
    by simp only [buildSuccessV6, respond_respOutcome]; decide, by simp [buildSuccessV6]⟩⟩

theorem datapathOnly_lengthTest (u : State) : DatapathOnly u (lengthTest u) := by
  unfold lengthTest; split
  · exact datapathOnly_buildError u
  · exact datapathOnly_decodeHeader u

/-- What PROCESS leaves in RESP has a legal length and outcome (R247, R301). -/
theorem process_resp {u t : State} (h : process u = .next t) :
    t.resp.length = frameLength t.respOutcome ∧ t.respOutcome.toNat ≤ 5 ∧ 0 < t.resp.length := by
  obtain ⟨-, rfl⟩ | ⟨-, -, rfl⟩ | ⟨-, -, -, rfl⟩ | ⟨-, -, -, ⟨-, rfl⟩ | ⟨-, rfl⟩⟩ := process_cases h
  all_goals
    simp only [buildError, buildError420Type, buildError420Cookie, buildSuccessV4, buildSuccessV6, respond_resp,
      respond_respOutcome, errorFrame_length, unknownFrame_length, successFrameV4_length, successFrameV6_length]
    decide

theorem datapathOnly_process {u t : State} (h : process u = .next t) : DatapathOnly u t := by
  refine ⟨?_, .inr (process_resp h)⟩
  have := process_frame h
  have hu : t.unitOut = u.unitOut := by rw [this]
  rw [hu]; exact this

theorem datapathOnly_returnDecode {n : Nat} {src : List Byte} {d : Datum} {u t : State}
    (h : returnDecode n src d u = .next t) : DatapathOnly u t := by
  unfold returnDecode at h
  split at h
  · cases h
  · injection h with h; subst h; exact datapathOnly_returnUnit d u

theorem datapathOnly_returnForCode {c : Nat} {d : Datum} {u t : State} (h : returnForCode c d u = .next t) :
    DatapathOnly u t := by
  unfold returnForCode at h
  split at h
  · injection h with h; subst h; exact datapathOnly_returnUnit d u
  · cases h

theorem datapathOnly_ite {p : Prop} [Decidable p] {u a b : State} (ha : DatapathOnly u a) (hb : DatapathOnly u b) :
    DatapathOnly u (if p then a else b) := by
  split <;> assumption

theorem datapathOnly_validateCookie (u : State) : DatapathOnly u (validateCookie u) :=
  datapathOnly_ite (datapathOnly_setInvalidCookie u) (datapathOnly_setValid u)

theorem datapathOnly_buildSuccess {u t : State} (h : buildSuccess u = .next t) : DatapathOnly u t := by
  obtain ⟨-, rfl⟩ | ⟨-, rfl⟩ := buildSuccess_cases h
  · exact datapathOnly_buildSuccessV4 u
  · exact datapathOnly_buildSuccessV6 u

/-- An internal instruction changes the datapath registers and the result port only. -/
theorem exec_internal {i : Instr} {u t : State} (hi : isInternal i = true) (h : exec i u = .next t) : DatapathOnly u t := by
  cases i
  case hostRd | hostWr | hostWrIgnored | cmdSoftReset | startBusy | startReservedOp | startBadFamily | cmdProcess | ctrlConfig
      | statusW1c | engineCommit => cases hi
  case process => exact datapathOnly_process h
  case buildSuccess => exact datapathOnly_buildSuccess h
  case encErrorCode | encErrorBody => exact datapathOnly_returnForCode h
  case decU16 | decU32 | decU64 | decU96 | decU128 => exact datapathOnly_returnDecode h
  case rxShort0to15 | rxShort16to19 =>
    injection h with h; subst h; exact datapathOnly_ite (datapathOnly_buildError u) (datapathOnly_lengthTest u)
  case rxFullHeader =>
    injection h with h; subst h; exact datapathOnly_ite (datapathOnly_decodeHeader u) (datapathOnly_lengthTest u)
  case rxBindingRequest =>
    injection h with h; subst h; exact datapathOnly_ite (datapathOnly_validateCookie u) (datapathOnly_validate u)
  case rxOtherType =>
    injection h with h; subst h; exact datapathOnly_ite (datapathOnly_setInvalidType u) (datapathOnly_validate u)
  case rxCookieOk =>
    injection h with h; subst h; exact datapathOnly_ite (datapathOnly_setValid u) (datapathOnly_validate u)
  case rxCookieBad =>
    injection h with h; subst h; exact datapathOnly_ite (datapathOnly_setInvalidCookie u) (datapathOnly_validate u)
  case decodeHeader => injection h with h; subst h; exact datapathOnly_decodeHeader u
  case validate => injection h with h; subst h; exact datapathOnly_validate u
  case buildError => injection h with h; subst h; exact datapathOnly_buildError u
  case buildError420Type => injection h with h; subst h; exact datapathOnly_buildError420Type u
  case buildError420Cookie => injection h with h; subst h; exact datapathOnly_buildError420Cookie u
  case buildSuccessV4 => injection h with h; subst h; exact datapathOnly_buildSuccessV4 u
  case buildSuccessV6 => injection h with h; subst h; exact datapathOnly_buildSuccessV6 u
  all_goals injection h with h; subst h; exact datapathOnly_returnUnit _ u

/-! ## Decoding the three kinds of event -/

theorem decodeDsel_internal {d : BitVec 11} {i : Instr} (h : decodeDsel d = .ok i) : isInternal i = true := by
  unfold decodeDsel at h
  repeat' split at h
  all_goals first | cases h; done | (injection h with h; subst h; rfl)

theorem decodeCodec_internal {sel : BitVec 6} {arg : Datum} {i : Instr} (h : decodeCodec sel arg = .ok i) :
    isInternal i = true := by
  unfold decodeCodec at h
  repeat' split at h
  all_goals first | cases h; done | (injection h with h; subst h; rfl)

theorem decodeUnit_internal {op : UnitOp} {args : List Datum} {i : Instr} (h : decodeUnit op args = .ok i) :
    isInternal i = true := by
  unfold decodeUnit at h
  repeat' split at h
  all_goals first | cases h; done | (injection h with h; subst h; rfl)

theorem decodeWireType_internal {w : Half} {i : Instr} (h : decodeWireType w = .ok i) : isInternal i = true := by
  unfold decodeWireType at h
  repeat' split at h
  all_goals first | cases h; done | (injection h with h; subst h; rfl)

theorem decodeWireAttr_internal {w : Half} {i : Instr} (h : decodeWireAttr w = .ok i) : isInternal i = true := by
  unfold decodeWireAttr at h
  repeat' split at h
  all_goals first | cases h; done | (injection h with h; subst h; rfl)

theorem decodeWireFamily_internal {w : Byte} {i : Instr} (h : decodeWireFamily w = .ok i) : isInternal i = true := by
  unfold decodeWireFamily at h
  repeat' split at h
  all_goals first | cases h; done | (injection h with h; subst h; rfl)

theorem decodeWireError_internal {w : Word} {i : Instr} (h : decodeWireError w = .ok i) : isInternal i = true := by
  unfold decodeWireError at h
  repeat' split at h
  all_goals first | cases h; done | (injection h with h; subst h; rfl)

theorem decodeLength_internal (w : Word) : isInternal (decodeLength w) = true := by
  unfold decodeLength; repeat' split
  all_goals rfl

theorem decodeType_internal (w : Half) : isInternal (decodeType w) = true := by unfold decodeType; split <;> rfl

theorem decodeCookie_internal (w : Word) : isInternal (decodeCookie w) = true := by unfold decodeCookie; split <;> rfl

/-- The direct calls of datapath blocks: every event but accesses, reset and the engine's turn. -/
def isDirectCall : Event → Bool
  | .read _ _ => false
  | .write _ _ _ => false
  | .rst => false
  | .engineStep => false
  | _ => true

theorem decode_directCall {w : View} {e : Event} {i : Instr} (he : isDirectCall e = true) (h : decode w e = .ok i) :
    isInternal i = true := by
  cases e
  case read | write | rst | engineStep => cases he
  case lengthTest => injection h with h; subst h; exact decodeLength_internal _
  case typeTest => injection h with h; subst h; exact decodeType_internal _
  case cookieTest => injection h with h; subst h; exact decodeCookie_internal _
  case builder => exact decodeDsel_internal h
  case codec => exact decodeCodec_internal h
  case unit => exact decodeUnit_internal h
  case wireType => exact decodeWireType_internal h
  case wireAttr => exact decodeWireAttr_internal h
  case wireFamily => exact decodeWireFamily_internal h
  case wireError => exact decodeWireError_internal h

/-- Every CTRL_WR row's meaning is the CTRL write of its value (R110). -/
theorem exec_ctrlRow (row : CtrlRow) (v : Word) (u : State) : exec (row.instr v) u = .next (ctrlWrite v u) := by
  cases row <;> exact congrArg Host.Outcome.next (asCtrlRow_eq _ v u)

/-- The register of an index that is neither CTRL nor STATUS is neither. -/
theorem regAt_not_command {idx : BitVec 6} (h1 : idx ≠ 1#6) (h2 : idx ≠ 2#6) : regAt idx ≠ .ctrl ∧ regAt idx ≠ .status := by
  revert idx; decide

/-- An index that is no data register's names a register no data write changes. -/
theorem writeReg_of_not_data {idx : BitVec 6} (h : isDataIndex idx = false) (v : Word) (u : State) :
    writeReg (regAt idx) v u = u := by
  have : ∀ idx : BitVec 6, isDataIndex idx = false → regAt idx ≠ .inLen ∧ regAt idx ≠ .peerFamily ∧ regAt idx ≠ .peerPort ∧
      (∀ k, regAt idx ≠ .peerAddr k) ∧ (∀ k, regAt idx ≠ .inHdr k) := by decide
  obtain ⟨h1, h2, h3, h4, h5⟩ := this idx h
  cases hr : regAt idx <;> simp_all [writeReg]

/-- A defined write performs the CTRL command, the STATUS command, or a data-register write (R110, R271, R280). -/
theorem exec_decodeWrite (w : View) (u : State) (idx : BitVec 6) (v : Word) :
    exec (decodeWrite w idx v) u =
      .next (if idx = 1#6 then ctrlWrite v u else if idx = 2#6 then clearFlags v u else writeReg (regAt idx) v u) := by
  unfold decodeWrite
  split
  · exact exec_ctrlRow _ v u
  · split
    · rfl
    · split
      · rename_i h; simp [exec, execHostWr, h]
      · rename_i h1 h2 h
        have hd : isDataIndex idx = false := by simpa using h
        rw [writeReg_of_not_data hd]
        simp [exec, execHostWrIgnored, hd, isCommandIndex, h1, h2]

/-! ## One step -/

@[simp] theorem view_events (s : State) (es : List Event) : ({ s with events := es } : State).view = s.view := rfl

@[simp] theorem view_busy (s : State) : s.view.busy = s.busy := rfl

@[simp] theorem view_peerFamily (s : State) : s.view.peerFamily = s.peerFamily := rfl

theorem accessDefined_iff {off n : Nat} : accessDefined off n = true ↔ n = 4 ∧ off % 4 = 0 ∧ off ≤ 0x0FC := by
  simp [accessDefined, and_assoc]

theorem wordIndex_eq {off : Nat} (h : off % 4 = 0) (hl : off ≤ 0x0FC) (k : Nat) (hk : k < 64) :
    wordIndex off = BitVec.ofNat 6 k ↔ off = 4 * k := by
  unfold wordIndex
  constructor
  · intro he
    have := congrArg BitVec.toNat he
    simp only [BitVec.toNat_ofNat] at this
    omega
  · rintro rfl; congr 1; omega

/-- What one step can do. `u` is the state without the event it performs. -/
theorem step_cases {s t : State} (h : step s = .next t) :
    (s.events = [] ∧ engineTurn s = .next t) ∨
    ∃ rest, let u : State := { s with events := rest }
      (s.events = .rst :: rest ∧ t = resetInstance u) ∨
      (∃ off r, s.events = .rd off :: rest ∧ t = hostRead r u) ∨
      (∃ v, s.events = .wr 0x004 v :: rest ∧ t = ctrlWrite v u) ∨
      (∃ v, s.events = .wr 0x008 v :: rest ∧ t = clearFlags v u) ∨
      (∃ off v r, s.events = .wr off v :: rest ∧ off ≠ 0x004 ∧ off ≠ 0x008 ∧ t = writeReg r v u) ∨
      (s.events = .engineStep :: rest ∧ engineTurn u = .next t) ∨
      (∃ e, s.events = e :: rest ∧ isDirectCall e = true ∧ DatapathOnly u t) := by
  unfold step at h
  split at h
  · exact .inl ⟨‹_›, h⟩
  · rename_i rest he
    exact .inr ⟨rest, .inl ⟨he, by simpa using h.symm⟩⟩
  · rename_i e rest hr he
    refine .inr ⟨rest, .inr ?_⟩
    split at h
    · rename_i i hd
      by_cases hc : isDirectCall e = true
      · exact .inr (.inr (.inr (.inr (.inr ⟨e, he, hc, exec_internal (decode_directCall hc hd) h⟩))))
      · cases e <;> simp only [isDirectCall, not_true] at hc
        case read off n =>
          simp only [decode] at hd
          split at hd
          · rename_i ha
            obtain ⟨rfl, h4, hl⟩ := accessDefined_iff.mp ha
            injection hd with hd; subst hd
            exact .inl ⟨off, _, he, by simpa [exec, execHostRd] using h.symm⟩
          · cases hd
        case write off n v =>
          simp only [decode] at hd
          split at hd
          · rename_i ha
            obtain ⟨rfl, h4, hl⟩ := accessDefined_iff.mp ha
            injection hd with hd; subst hd
            rw [exec_decodeWrite] at h
            injection h with h
            have e1 := wordIndex_eq h4 hl 1 (by omega)
            have e2 := wordIndex_eq h4 hl 2 (by omega)
            by_cases c1 : off = 4
            · subst c1
              rw [if_pos (e1.mpr rfl)] at h
              exact .inr (.inl ⟨v, he, h.symm⟩)
            · rw [if_neg (mt e1.mp c1)] at h
              by_cases c2 : off = 8
              · subst c2
                rw [if_pos (e2.mpr rfl)] at h
                exact .inr (.inr (.inl ⟨v, he, h.symm⟩))
              · rw [if_neg (mt e2.mp c2)] at h
                exact .inr (.inr (.inr (.inl ⟨off, v, _, he, c1, c2, h.symm⟩)))
          · cases hd
        case rst => exact absurd rfl hr
        case engineStep =>
          injection hd with hd; subst hd
          exact .inr (.inr (.inr (.inr (.inl ⟨he, h⟩))))
    · cases h

/-- A step that performs an event runs the instruction it decodes to. -/
theorem step_decoded {s : State} {e : Event} {rest : List Event} {i : Instr} (he : s.events = e :: rest) (hr : e ≠ .rst)
    (hd : decode s.view e = .ok i) : step s = exec i { s with events := rest } := by
  unfold step
  split
  · simp_all
  · simp_all
  · rename_i he'
    rw [he] at he'
    injection he' with h1 h2
    subst h1 h2
    rw [hd]

/-- A step that performs a defined write (R110, R271, R280). -/
theorem step_write {s : State} {off : Nat} {v : Word} {rest : List Event} (he : s.events = .wr off v :: rest)
    (h4 : off % 4 = 0) (hl : off ≤ 0x0FC) :
    step s = .next (if off = 0x004 then ctrlWrite v { s with events := rest }
      else if off = 0x008 then clearFlags v { s with events := rest }
      else writeReg (regAt (wordIndex off)) v { s with events := rest }) := by
  have hd : decode s.view (.wr off v) = .ok (decodeWrite s.view (wordIndex off) v) :=
    if_pos (accessDefined_iff.mpr ⟨rfl, h4, hl⟩)
  rw [step_decoded he (by simp) hd, exec_decodeWrite]
  simp only [wordIndex_eq h4 hl 1 (by omega), wordIndex_eq h4 hl 2 (by omega)]

/-- A step leaves the stream of free values as it is. -/
theorem step_stream {s t : State} (h : step s = .next t) : t.stream = s.stream := by
  have hturn : ∀ {u t : State}, engineTurn u = .next t → t.stream = u.stream := by
    intro u t h
    obtain ⟨-, rfl⟩ | ⟨-, v, hv, rfl⟩ := engineTurn_cases h
    · rfl
    · rw [process_frame hv]; rfl
  obtain ⟨-, h⟩ | ⟨rest, ⟨-, rfl⟩ | ⟨off, r, -, rfl⟩ | ⟨v, -, rfl⟩ | ⟨v, -, rfl⟩ | ⟨off, v, r, -, -, -, rfl⟩ | ⟨-, h⟩ | ⟨e, -, -, h⟩⟩ :=
    step_cases h
  · exact hturn h
  · rfl
  · rfl
  · obtain ⟨-, e⟩ | ⟨-, -, e⟩ | ⟨-, -, -, e⟩ | ⟨-, -, -, -, e⟩ | ⟨-, -, -, -, -, e⟩ | ⟨-, -, -, -, -, e⟩ :=
      ctrlWrite_cases v { s with events := rest } <;> rw [e] <;> rfl
  · rfl
  · exact writeReg_stream r v _
  · exact (hturn h).trans rfl
  · rw [h.1]

end Sys2Proof.Machine
end

