-- ==== Sys2Proof/Laws/Decode.lean ====
section
/-! SUPPORT. Rows and the registers that select them; and the opcode table's bare words: the registers and the event `decodeTableWord` reads are those `withFetchWord` gives the
machine after reset, so the step there runs the instruction `decodeTableWord` names. -/

namespace Sys2Proof.Machine

/-! ## Rows and the registers that select them -/

/-- Masking with the bits from n up clears the bits below n. -/
theorem and_highMask {w : Nat} (x : BitVec w) (n : Nat) (m : BitVec w) (hm : m = BitVec.allOnes w <<< n) :
    (x &&& m).toNat = x.toNat / 2 ^ n * 2 ^ n := by
  rw [hm, ← BitVec.shiftLeft_ushiftRight]
  simp only [BitVec.toNat_shiftLeft, BitVec.toNat_ushiftRight, Nat.shiftLeft_eq, Nat.shiftRight_eq_div_pow]
  exact Nat.mod_eq_of_lt (lt_of_le_of_lt (Nat.div_mul_le_self _ _) x.isLt)

/-- The IN_LEN rows' masks, read as the ranges they test (R108 test 1). -/
theorem length_rows (x : Word) :
    (rowMatches 0x00000000#32 0xFFFFFFF0#32 x = true ↔ x.toNat ≤ 15) ∧
    (rowMatches 0x00000010#32 0xFFFFFFFC#32 x = true ↔ 16 ≤ x.toNat ∧ x.toNat ≤ 19) := by
  simp only [rowMatches, beq_iff_eq, ← BitVec.toNat_inj, and_highMask x 4 0xFFFFFFF0#32 rfl, and_highMask x 2 0xFFFFFFFC#32 rfl]
  constructor
  · show _ = 0 ↔ _; omega
  · show _ = 16 ↔ _; omega

/-- The DSEL rows' masks, read as the bits they test (R112). -/
theorem dsel_rows (d : BitVec 11) :
    (rowMatches 0x400#11 0x400#11 d = true ↔ d.getLsbD 10 = true) ∧
    (rowMatches 0x100#11 0x700#11 d = true ↔ d.extractLsb' 8 3 = 0b001#3) ∧
    (rowMatches 0x200#11 0x700#11 d = true ↔ d.extractLsb' 8 3 = 0b010#3) := by
  have := d.isLt
  simp only [rowMatches, beq_iff_eq, ← BitVec.toNat_inj, and_highMask d 10 0x400#11 rfl, and_highMask d 8 0x700#11 rfl,
    BitVec.extractLsb'_toNat, Nat.shiftRight_eq_div_pow, BitVec.getLsbD, Nat.testBit_eq_decide_div_mod_eq, decide_eq_true_eq]
  refine ⟨?_, ?_, ?_⟩
  · show _ = 1024 ↔ _; omega
  · show _ = 256 ↔ _ = 1; omega
  · show _ = 512 ↔ _ = 2; omega

/-- A well-formed CTRL_WR row that the registers select is the first matching row of its write (R110). -/
theorem ctrlRow_of_selects (w : View) (v : Word) (row : CtrlRow) (hwf : (row.instr v).wf = true) (hs : selects w (row.instr v)) :
    ctrlRow v w.busy w.peerFamily = row := by
  obtain ⟨m2, m0, m1, m11⟩ := ctrlMasks v
  have hl := legalFamily_eq_true (f := w.peerFamily)
  unfold ctrlRow
  cases row <;> simp only [CtrlRow.instr, Instr.wf, selects, m2, m0, m1, m11, Bool.and_eq_true, Bool.not_eq_true',
    decide_eq_true_eq, bne_iff_ne, Config.opProcess] at hwf hs ⊢ <;>
    generalize v.getLsbD 1 = b1 at hwf ⊢ <;> generalize v.getLsbD 0 = b0 at hwf ⊢ <;>
    generalize v.extractLsb' 4 4 = op at hwf ⊢ <;> simp_all

/-- A data register's index is neither CTRL's nor STATUS's. -/
theorem isDataIndex_not_command : ∀ idx : BitVec 6, isDataIndex idx = true → idx ≠ 1#6 ∧ idx ≠ 2#6 := by decide

/-- The offset of a word index is a defined access to it. -/
theorem byteOffset_defined : ∀ idx : BitVec 6, accessDefined (byteOffset idx) 4 = true ∧ wordIndex (byteOffset idx) = idx := by
  decide

/-! ## Bare words -/

/-- A word that holds a length shorter than a header or not, as DSEL shows it. -/
theorem dsel_length (len : Word) :
    BitVec.ofBool (shortFrame len) ++ voutCode .valid ++ (0#8) =
      if len.toNat < Config.hdrBytes then 0x400#11 else 0x000#11 := by
  by_cases h : len.toNat < Config.hdrBytes
  · have : shortFrame len = true := shortFrame_eq_true.mpr h
    rw [this, if_pos h]; decide
  · have : shortFrame len = false := shortFrame_eq_false.mpr (Nat.le_of_not_lt h)
    rw [this, if_neg h]; decide

/-- DSEL of the registers that `withFetchWord` sets from a DSEL word. -/
theorem dsel_word (d : BitVec 11) :
    BitVec.ofBool (shortFrame (if d.getLsbD 10 then 0#32 else 20#32)) ++ voutCode (voutOfCode (d.extractLsb' 8 2))
        ++ d.extractLsb' 0 8 =
      if d.extractLsb' 8 2 = 3#2 then d &&& 0x4FF#11 else d := by
  revert d; decide

theorem withFetchWord_view (nbits w : Nat) : (State.reset.withFetchWord nbits w).view = tableView nbits w := by
  unfold State.withFetchWord tableView
  cases tableFormat nbits w <;> dsimp only <;> refine View.mk.injEq .. ▸ ⟨rfl, rfl, rfl, rfl, rfl, ?_⟩
  case dselSel => exact dsel_word _
  case lengthW => exact dsel_length _
  case dispatchSuccess =>
    show BitVec.ofBool (shortFrame 20#32) ++ voutCode .valid ++ Config.familyV4 = 0x001#11
    decide
  all_goals
    show BitVec.ofBool (shortFrame _) ++ voutCode _ ++ _ = _
    exact dsel_length 0#32

/-- The step after a bare word is placed in the machine after reset runs the instruction the word decodes to. -/
theorem step_withFetchWord (nbits w : Nat) (i : Instr) (h : decodeTableWord nbits w = some i) :
    step (State.reset.withFetchWord nbits w) = exec i { State.reset.withFetchWord nbits w with events := [] } := by
  have he : (State.reset.withFetchWord nbits w).events = tableEvent nbits w :: [] := by
    unfold State.withFetchWord; cases tableFormat nbits w <;> rfl
  have hd : decode (State.reset.withFetchWord nbits w).view (tableEvent nbits w) = .ok i := by
    rw [withFetchWord_view]
    unfold decodeTableWord at h
    split at h
    · injection h with h; subst h; assumption
    · cases h
  unfold step
  rw [he]
  split
  · cases ‹_ = []›
  · rename_i he'
    injection he' with h1 h2
    rw [h1] at hd
    cases hd
  · rename_i he'
    injection he' with h1 h2
    subst h1 h2
    rw [hd]

end Sys2Proof.Machine
end

