-- ==== Sys2Proof/Laws/PerInstr.lean ====
section
/-! SUPPORT. Per-instruction family Selectable: every instruction has registers that select it, so no statement of the form "wherever
the registers select it" is empty for it. -/

namespace Sys2Proof.Laws.Selectable

/-- Some registers select the instruction. -/
def Statement (i : Instr) : Prop := ∃ w : View, selects w i

/-- The registers of an IDLE instance that holds a valid 20-byte request from an IPv4 peer. -/
def idleView : View :=
  { busy := false, peerFamily := 0x01#8, lLen := 20#32, hType := 0x0001#16, hCookie := 0x2112A442#32, dsel := 0x001#11 }

theorem hostRd (idx : BitVec 6) : Statement (.hostRd idx) := ⟨idleView, trivial⟩
theorem hostWr (idx : BitVec 6) (v : Word) : Statement (.hostWr idx v) := ⟨idleView, trivial⟩
theorem hostWrIgnored (idx : BitVec 6) (v : Word) : Statement (.hostWrIgnored idx v) := ⟨idleView, trivial⟩
theorem cmdSoftReset (v : Word) : Statement (.cmdSoftReset v) := ⟨idleView, trivial⟩
theorem startBusy (v : Word) : Statement (.startBusy v) := ⟨{ idleView with busy := true }, rfl⟩
theorem startReservedOp (v : Word) : Statement (.startReservedOp v) := ⟨idleView, rfl⟩
theorem startBadFamily (v : Word) : Statement (.startBadFamily v) := ⟨{ idleView with peerFamily := 0x00#8 }, ⟨rfl, by decide, by decide⟩⟩
theorem cmdProcess (v : Word) : Statement (.cmdProcess v) := ⟨idleView, ⟨rfl, .inl rfl⟩⟩
theorem ctrlConfig (v : Word) : Statement (.ctrlConfig v) := ⟨idleView, trivial⟩
theorem statusW1c (v : Word) : Statement (.statusW1c v) := ⟨idleView, trivial⟩
theorem engineCommit : Statement .engineCommit := ⟨idleView, trivial⟩
theorem process : Statement .process := ⟨idleView, trivial⟩
theorem rxShort0to15 : Statement .rxShort0to15 := ⟨{ idleView with lLen := 0#32 }, by show _ ≤ 15; decide⟩
theorem rxShort16to19 : Statement .rxShort16to19 := ⟨{ idleView with lLen := 16#32 }, by show _ ∧ _; decide⟩
theorem rxFullHeader : Statement .rxFullHeader := ⟨idleView, by show 20 ≤ _; decide⟩
theorem decodeHeader : Statement .decodeHeader := ⟨idleView, trivial⟩
theorem validate : Statement .validate := ⟨idleView, trivial⟩
theorem rxBindingRequest : Statement .rxBindingRequest := ⟨idleView, rfl⟩
theorem rxOtherType : Statement .rxOtherType := ⟨{ idleView with hType := 0#16 }, by show _ ≠ _; decide⟩
theorem rxCookieOk : Statement .rxCookieOk := ⟨idleView, rfl⟩
theorem rxCookieBad : Statement .rxCookieBad := ⟨{ idleView with hCookie := 0#32 }, by show _ ≠ _; decide⟩
theorem buildError : Statement .buildError := ⟨{ idleView with dsel := 0x400#11 }, rfl⟩
theorem buildError420Type : Statement .buildError420Type := ⟨{ idleView with dsel := 0x100#11 }, rfl⟩
theorem buildError420Cookie : Statement .buildError420Cookie := ⟨{ idleView with dsel := 0x200#11 }, rfl⟩
theorem buildSuccessV4 : Statement .buildSuccessV4 := ⟨idleView, rfl⟩
theorem buildSuccessV6 : Statement .buildSuccessV6 := ⟨{ idleView with dsel := 0x002#11 }, rfl⟩
theorem buildSuccess : Statement .buildSuccess := ⟨idleView, trivial⟩
theorem xorPort (p : Half) : Statement (.xorPort p) := ⟨idleView, trivial⟩
theorem xorAddrV4 (a : Word) : Statement (.xorAddrV4 a) := ⟨idleView, trivial⟩
theorem xorMaskV6 (t : TxId) : Statement (.xorMaskV6 t) := ⟨idleView, trivial⟩
theorem xorAddrV6 (a : Quad128) (t : TxId) : Statement (.xorAddrV6 a t) := ⟨idleView, trivial⟩
theorem encHeader (ty ml : Half) (t : TxId) : Statement (.encHeader ty ml t) := ⟨idleView, trivial⟩
theorem encAttrHeader (ty al : Half) : Statement (.encAttrHeader ty al) := ⟨idleView, trivial⟩
theorem encAddrBodyV4 (p : Half) (a : Word) : Statement (.encAddrBodyV4 p a) := ⟨idleView, trivial⟩
theorem encAddrBodyV6 (p : Half) (a : Quad128) (t : TxId) : Statement (.encAddrBodyV6 p a t) := ⟨idleView, trivial⟩
theorem encErrorCode (c : Nat) : Statement (.encErrorCode c) := ⟨idleView, trivial⟩
theorem padReason (r : List Byte) : Statement (.padReason r) := ⟨idleView, trivial⟩
theorem encErrorBody (c : Nat) (r : List Byte) : Statement (.encErrorBody c r) := ⟨idleView, trivial⟩
theorem encUnknownBody (q0 q1 q2 q3 : Half) : Statement (.encUnknownBody q0 q1 q2 q3) := ⟨idleView, trivial⟩
theorem decU16 (s : List Byte) : Statement (.decU16 s) := ⟨idleView, trivial⟩
theorem decU32 (s : List Byte) : Statement (.decU32 s) := ⟨idleView, trivial⟩
theorem decU64 (s : List Byte) : Statement (.decU64 s) := ⟨idleView, trivial⟩
theorem decU96 (s : List Byte) : Statement (.decU96 s) := ⟨idleView, trivial⟩
theorem decU128 (s : List Byte) : Statement (.decU128 s) := ⟨idleView, trivial⟩
theorem encU16 (v : Half) : Statement (.encU16 v) := ⟨idleView, trivial⟩
theorem encU32 (v : Word) : Statement (.encU32 v) := ⟨idleView, trivial⟩
theorem encU64 (v : BitVec 64) : Statement (.encU64 v) := ⟨idleView, trivial⟩
theorem encU96 (v : TxId) : Statement (.encU96 v) := ⟨idleView, trivial⟩
theorem encU128 (v : Quad128) : Statement (.encU128 v) := ⟨idleView, trivial⟩
theorem txSuccessResponse : Statement .txSuccessResponse := ⟨idleView, trivial⟩
theorem txErrorResponse : Statement .txErrorResponse := ⟨idleView, trivial⟩
theorem attrXorMappedAddress : Statement .attrXorMappedAddress := ⟨idleView, trivial⟩
theorem attrErrorCode : Statement .attrErrorCode := ⟨idleView, trivial⟩
theorem attrUnknownAttributes : Statement .attrUnknownAttributes := ⟨idleView, trivial⟩
theorem familyIpv4 : Statement .familyIpv4 := ⟨idleView, trivial⟩
theorem familyIpv6 : Statement .familyIpv6 := ⟨idleView, trivial⟩
theorem errcode400 : Statement .errcode400 := ⟨idleView, trivial⟩
theorem errcode420 : Statement .errcode420 := ⟨idleView, trivial⟩

end Sys2Proof.Laws.Selectable
end

