-- ==== Sys2Proof/Laws/Platform.lean ====
section
/-! SUPPORT. What one event of a platform can do, said once: the instance it reaches takes one step, and the arguments of the platform
stay. -/

namespace Sys2Proof.Machine

/-- Where an instance's turn answers, one instance has stepped, or there is none of that index. -/
theorem stepEngine_cases {k : Nat} {p q : Platform} (h : stepEngine k p = .next q) :
    (p.engines[k]? = none ∧ q = p) ∨
    ∃ s t, p.engines[k]? = some s ∧ step s = .next t ∧ q = { p with engines := p.engines.set k t } := by
  unfold stepEngine at h
  split at h
  · exact .inl ⟨‹_›, by simpa using h.symm⟩
  · split at h
    · exact .inr ⟨_, _, ‹_›, ‹_›, by simpa using h.symm⟩
    · cases h
    · cases h

/-- Where an access answers, the instance it reaches has performed it, or there is none of that index. -/
theorem performAt_cases {k : Nat} {e : Event} {p q : Platform} (h : performAt k e p = .next q) :
    (p.engines[k]? = none ∧ q = p) ∨
    ∃ s t, p.engines[k]? = some s ∧ step { s with events := e :: s.events } = .next t ∧
      q = { p with engines := p.engines.set k t } := by
  unfold performAt at h
  split at h
  · exact .inl ⟨‹_›, by simpa using h.symm⟩
  · rename_i s hs
    have hk : k < p.engines.length := (List.getElem?_eq_some_iff.mp hs).1
    obtain ⟨hn, -⟩ | ⟨s', t, hs', ht, rfl⟩ := stepEngine_cases h
    · simp [hk] at hn
    · refine .inr ⟨s, t, hs, ?_, by simp⟩
      simp only [List.getElem?_set_self hk, Option.some.injEq] at hs'
      rw [hs']; exact ht

/-- What one event of a platform can do: nothing, one step of one instance, or the common reset. -/
theorem platformStep_cases {e : PlatformEvent} {p q : Platform} (h : platformStep e p = .next q) :
    q = p ∨
    (∃ k s u t, p.engines[k]? = some s ∧ step u = .next t ∧ u.stream = s.stream ∧ q = { p with engines := p.engines.set k t }) ∨
    (e = .rst ∧ q = { p with engines := p.engines.map resetInstance }) := by
  cases e with
  | read addr n =>
    simp only [platformStep] at h
    split at h
    · obtain ⟨-, rfl⟩ | ⟨s, t, hs, ht, rfl⟩ := performAt_cases h
      · exact .inl rfl
      · exact .inr (.inl ⟨_, s, _, t, hs, ht, rfl, rfl⟩)
    · cases h
  | write addr n v =>
    simp only [platformStep] at h
    split at h
    · obtain ⟨-, rfl⟩ | ⟨s, t, hs, ht, rfl⟩ := performAt_cases h
      · exact .inl rfl
      · exact .inr (.inl ⟨_, s, _, t, hs, ht, rfl, rfl⟩)
    · cases h
  | turn k =>
    obtain ⟨-, rfl⟩ | ⟨s, t, hs, ht, rfl⟩ := stepEngine_cases h
    · exact .inl rfl
    · exact .inr (.inl ⟨k, s, s, t, hs, ht, rfl, rfl⟩)
  | rst => exact .inr (.inr ⟨rfl, by simpa [platformStep] using h.symm⟩)

/-- Replacing an instance by one that draws from the same stream keeps the streams. -/
theorem map_stream_set {k : Nat} {s t : State} {l : List State} (hs : l[k]? = some s) (ht : t.stream = s.stream) :
    (l.set k t).map State.stream = l.map State.stream := by
  obtain ⟨hk, rfl⟩ := List.getElem?_eq_some_iff.mp hs
  rw [List.map_set, ht]
  apply List.ext_getElem (by simp)
  intro i h1 h2
  simp only [List.getElem_set, List.getElem_map]
  split
  · rename_i h; simp only [h]
  · rfl

/-- The block that holds an address, where no two overlap (20_memory.md R60). -/
theorem routeFrom_eq {bases : List Nat} (hd : disjointBases bases) {k base off : Nat} (hb : bases[k]? = some base)
    (ho : off < blockBytes) (i : Nat) : routeFrom i (base + off) bases = some (i + k, off) := by
  induction bases generalizing i k with
  | nil => simp at hb
  | cons b rest ih =>
    obtain ⟨hfirst, hrest⟩ := List.pairwise_cons.mp hd
    cases k with
    | zero =>
      simp only [List.getElem?_cons_zero, Option.some.injEq] at hb
      subst hb
      simp [routeFrom, ho]
    | succ k =>
      simp only [List.getElem?_cons_succ] at hb
      have := hfirst base (List.mem_of_getElem? hb)
      rw [routeFrom, if_neg (by omega), ih hrest hb]
      congr 2; omega

end Sys2Proof.Machine
end

