-- ==== Sys2Proof/Tests/Slice0.lean ====
section
/-! SUPPORT. Tests. Words are written out from the encodings of 30_encoding.md and the opcode table; expected results come from
95_test_vectors.md and the examples of the rules named; the witness theorems show that the hypotheses of the obligations can be
met together. -/

namespace Sys2Proof.Tests

open Sys2Proof Sys2Proof.Machine

/-! ## Helpers -/

/-- The state an operation answers, where it answers one. -/
def after : Result → Option State
  | .next s => some s
  | .fault _ => none
  | .refused _ => none

/-- The transaction ids T1 and T2 and the header words of 95_test_vectors.md section 2. -/
def t1 : TxId := 0xECCB9A1AAAA9CD0900000000#96
def t2 : TxId := 0x0102030405060708090A0B0C#96

/-- The input registers of example E1's request from 127.0.0.1:45321 (95_test_vectors.md, program 1). -/
def e1 : State :=
  { State.reset with
    inLen := 20#32, peerFamily := 0x01#8, peerPort := 0xB109#16
    peerAddr := #v[0x7F000001#32, 0#32, 0#32, 0#32]
    inHdr := #v[0x00010000#32, 0x2112A442#32, 0xECCB9A1A#32, 0xAAA9CD09#32, 0#32] }

/-- E1 accepted: the latch taken, BUSY. -/
def e1Busy : State := acceptStart 0x11#32 e1

/-- A request with the given first two header words and T2, from 2001:db8:85a3::8a2e:370:7334, port 65535, BUSY. -/
def v6Busy (h0 h1 : Word) : State :=
  acceptStart 0x11#32 { State.reset with
    inLen := 20#32, peerFamily := 0x02#8, peerPort := 0xFFFF#16
    peerAddr := #v[0x20010DB8#32, 0x85A30000#32, 0x00008A2E#32, 0x03707334#32]
    inHdr := #v[h0, h1, 0x01020304#32, 0x05060708#32, 0x090A0B0C#32] }

/-- The registers of an IDLE instance that holds a valid request from an IPv4 peer, after validation. -/
def idleV4 : View :=
  { busy := false, peerFamily := 0x01#8, lLen := 20#32, hType := 0x0001#16, hCookie := 0x2112A442#32, dsel := 0x001#11 }

/-! ## WellFormed: an ill-formed term for each check, and a well-formed neighbour -/

theorem test_wf_hostWr : (Instr.hostWr 6#6 0).wf = false ∧ (Instr.hostWr 5#6 0).wf = true := by decide
theorem test_wf_hostWr_edges : (Instr.hostWr 12#6 0).wf = false ∧ (Instr.hostWr 21#6 0).wf = false ∧ (Instr.hostWr 20#6 0).wf = true := by
  decide
theorem test_wf_hostWrIgnored_data : (Instr.hostWrIgnored 3#6 0).wf = false ∧ (Instr.hostWrIgnored 6#6 0).wf = true := by decide
theorem test_wf_hostWrIgnored_command : (Instr.hostWrIgnored 1#6 0).wf = false ∧ (Instr.hostWrIgnored 2#6 0).wf = false := by decide
theorem test_wf_cmdSoftReset : (Instr.cmdSoftReset 0x11#32).wf = false ∧ (Instr.cmdSoftReset 0x13#32).wf = true := by decide
theorem test_wf_startBusy : (Instr.startBusy 0x13#32).wf = false ∧ (Instr.startBusy 0x31#32).wf = true := by decide
theorem test_wf_startReservedOp : (Instr.startReservedOp 0x11#32).wf = false ∧ (Instr.startReservedOp 0x10#32).wf = false ∧
    (Instr.startReservedOp 0x01#32).wf = true := by decide
theorem test_wf_startBadFamily : (Instr.startBadFamily 0x21#32).wf = false ∧ (Instr.startBadFamily 0x15#32).wf = true := by decide
theorem test_wf_cmdProcess : (Instr.cmdProcess 0x01#32).wf = false ∧ (Instr.cmdProcess 0xFFFFFF1D#32).wf = true := by decide
theorem test_wf_ctrlConfig : (Instr.ctrlConfig 0x15#32).wf = false ∧ (Instr.ctrlConfig 0x14#32).wf = true := by decide
theorem test_wf_encErrorCode : (Instr.encErrorCode 299).wf = false ∧ (Instr.encErrorCode 700).wf = false ∧
    (Instr.encErrorCode 300).wf = true ∧ (Instr.encErrorCode 699).wf = true := by decide
theorem test_wf_encErrorBody : (Instr.encErrorBody 200 []).wf = false ∧ (Instr.encErrorBody 420 []).wf = true := by decide

/-! ## Decoding, from words written out bit by bit -/

/-- BUS_READ: the word index is bits 7:2 of the offset; 0x0AC = 10101100. -/
theorem test_decode_hostRd : decode idleV4 (.read 0b10101100 4) = .ok (.hostRd 0b101011#6) := rfl
/-- BUS_WRITE to PEER_PORT, 0x014 = 00010100. -/
theorem test_decode_hostWr : decode idleV4 (.write 0b00010100 4 0x0000B109#32) = .ok (.hostWr 0b000101#6 0x0000B109#32) := by decide
/-- H13: OUT_LEN is read-only. -/
theorem test_decode_hostWrIgnored : decode idleV4 (.write 0x018 4 0xFFFF#32) = .ok (.hostWrIgnored 6#6 0xFFFF#32) := by decide
/-- CTRL_WR, v[1] = 1 (R110 row 1; H9). -/
theorem test_decode_softReset : decode idleV4 (.write 0x004 4 0b00010011#32) = .ok (.cmdSoftReset 0b00010011#32) := by decide
/-- R110 row 2: BUSY comes before OP (H8). -/
theorem test_decode_startBusy :
    decode { idleV4 with busy := true } (.write 0x004 4 0b00110001#32) = .ok (.startBusy 0b00110001#32) := by decide
/-- R110 row 3 (H4, H5). -/
theorem test_decode_startReservedOp : decode idleV4 (.write 0x004 4 0b00000001#32) = .ok (.startReservedOp 0b00000001#32) ∧
    decode idleV4 (.write 0x004 4 0b00110001#32) = .ok (.startReservedOp 0b00110001#32) := by decide
/-- R110 row 4 (H3). -/
theorem test_decode_startBadFamily :
    decode { idleV4 with peerFamily := 0x03#8 } (.write 0x004 4 0b00010001#32) = .ok (.startBadFamily 0b00010001#32) := by decide
/-- R110 row 5 (H6, and the pseudo-operation STARTI of R116). -/
theorem test_decode_cmdProcess : decode idleV4 (.write 0x004 4 0b00010001#32) = .ok (.cmdProcess 0b00010001#32) ∧
    decode idleV4 .startIrqCmd = .ok (.cmdProcess 0b00010101#32) := by decide
/-- R110 row 6 (H12). -/
theorem test_decode_ctrlConfig : decode idleV4 (.write 0x004 4 0b00010100#32) = .ok (.ctrlConfig 0b00010100#32) := by decide
/-- R110, the sentence after the table (H10). -/
theorem test_decode_statusW1c : decode idleV4 .clearCmd = .ok (.statusW1c 0b00011110#32) := by decide
/-- H16, H17, H18: refused by name. -/
theorem test_decode_undefined : decode idleV4 (.read 0x008 2) = .error (.hostAccessUndefined 0x008 2) ∧
    decode idleV4 (.read 0x006 4) = .error (.hostAccessUndefined 0x006 4) ∧
    decode idleV4 (.read 0x100 4) = .error (.hostAccessUndefined 0x100 4) := by decide
theorem test_decode_engine : decode idleV4 .engineStep = .ok .engineCommit ∧ decode idleV4 (.unit .process []) = .ok .process :=
  ⟨rfl, rfl⟩
/-- IN_LEN: 0..15 by mask 0xFFFFFFF0, 16..19 by mask 0xFFFFFFFC, the rest. -/
theorem test_decode_length : decodeLength 0#32 = .rxShort0to15 ∧ decodeLength 15#32 = .rxShort0to15 ∧
    decodeLength 16#32 = .rxShort16to19 ∧ decodeLength 19#32 = .rxShort16to19 ∧
    decodeLength 20#32 = .rxFullHeader ∧ decodeLength 0xFFFFFFFF#32 = .rxFullHeader := by decide
theorem test_decode_type : decodeType 0x0001#16 = .rxBindingRequest ∧ decodeType 0x0000#16 = .rxOtherType ∧
    decodeType 0x0101#16 = .rxOtherType ∧ decodeType 0xFFFF#16 = .rxOtherType := by decide
theorem test_decode_cookie : decodeCookie 0x2112A442#32 = .rxCookieOk ∧ decodeCookie 0x2112A443#32 = .rxCookieBad ∧
    decodeCookie 0x42A41221#32 = .rxCookieBad := by decide
theorem test_decode_header : decode idleV4 (.unit .decodeHeader []) = .ok .decodeHeader ∧
    decode idleV4 (.unit .validate []) = .ok .validate := ⟨rfl, rfl⟩
/-- R112: bit 10, bits 9:8, bits 7:0. -/
theorem test_decode_dsel : decodeDsel 0b1_10_01100110#11 = .ok .buildError ∧ decodeDsel 0b0_01_00000010#11 = .ok .buildError420Type ∧
    decodeDsel 0b0_10_00000001#11 = .ok .buildError420Cookie ∧ decodeDsel 0b0_00_00000001#11 = .ok .buildSuccessV4 ∧
    decodeDsel 0b0_00_00000010#11 = .ok .buildSuccessV6 := by decide
/-- R112: the values that never occur. -/
theorem test_decode_dsel_never : decodeDsel 0b0_11_00000001#11 = .error (.selectorNeverOccurs 0b0_11_00000001#11) ∧
    decodeDsel 0b0_00_00000000#11 = .error (.selectorNeverOccurs 0#11) := by decide
/-- R113: bit 5 is the direction, bits 4:0 the width in bytes. -/
theorem test_decode_codec_dec : decodeCodec 0b0_00010#6 (.bytes []) = .ok (.decU16 []) ∧
    decodeCodec 0b0_00100#6 (.bytes []) = .ok (.decU32 []) ∧ decodeCodec 0b0_01000#6 (.bytes []) = .ok (.decU64 []) ∧
    decodeCodec 0b0_01100#6 (.bytes []) = .ok (.decU96 []) ∧ decodeCodec 0b0_10000#6 (.bytes []) = .ok (.decU128 []) := by decide
theorem test_decode_codec_enc : decodeCodec 0b1_00010#6 (.u16 1#16) = .ok (.encU16 1#16) ∧
    decodeCodec 0b1_00100#6 (.u32 1#32) = .ok (.encU32 1#32) ∧ decodeCodec 0b1_01000#6 (.u64 1#64) = .ok (.encU64 1#64) ∧
    decodeCodec 0b1_01100#6 (.u96 1#96) = .ok (.encU96 1#96) ∧ decodeCodec 0b1_10000#6 (.u128 1#128) = .ok (.encU128 1#128) := by decide
theorem test_decode_codec_unused : decodeCodec 0b0_00011#6 (.bytes []) = .error (.codecSelUnused 0b0_00011#6) := by decide
/-- The operations no encoding selects are named with their operands (R190 to R202, R210). -/
theorem test_decode_xor : decodeUnit .xorPort [.u16 1#16] = .ok (.xorPort 1#16) ∧ decodeUnit .xorAddrV4 [.u32 1#32] = .ok (.xorAddrV4 1#32) ∧
    decodeUnit .xorMaskV6 [.u96 t2] = .ok (.xorMaskV6 t2) ∧
    decodeUnit .xorAddrV6 [.u128 1#128, .u96 t2] = .ok (.xorAddrV6 1#128 t2) := by decide
theorem test_decode_serializers : decodeUnit .encHeader [.u16 1#16, .u16 2#16, .u96 t2] = .ok (.encHeader 1#16 2#16 t2) ∧
    decodeUnit .encAttrHeader [.u16 1#16, .u16 2#16] = .ok (.encAttrHeader 1#16 2#16) ∧
    decodeUnit .encAddrBodyV4 [.u16 1#16, .u32 2#32] = .ok (.encAddrBodyV4 1#16 2#32) ∧
    decodeUnit .encAddrBodyV6 [.u16 1#16, .u128 2#128, .u96 t2] = .ok (.encAddrBodyV6 1#16 2#128 t2) := by decide
theorem test_decode_error_serializers : decodeUnit .encErrorCode [.code 420] = .ok (.encErrorCode 420) ∧
    decodeUnit .encErrorCode [.code 299] = .error (.operandRange 299) ∧ decodeUnit .padReason [.bytes []] = .ok (.padReason []) ∧
    decodeUnit .encErrorBody [.code 699, .bytes []] = .ok (.encErrorBody 699 []) ∧
    decodeUnit .encUnknownBody [.u16 1#16, .u16 2#16, .u16 3#16, .u16 4#16] = .ok (.encUnknownBody 1#16 2#16 3#16 4#16) ∧
    decodeUnit .buildSuccess [] = .ok .buildSuccess ∧ decodeUnit .xorPort [.u32 1#32] = .error .operandShape := by decide
theorem test_decode_wire_types : decodeWireType 0x0101#16 = .ok .txSuccessResponse ∧ decodeWireType 0x0111#16 = .ok .txErrorResponse ∧
    decodeWireType 0x0001#16 = .error .codePointNotEmitted := by decide
theorem test_decode_wire_attrs : decodeWireAttr 0x0020#16 = .ok .attrXorMappedAddress ∧ decodeWireAttr 0x0009#16 = .ok .attrErrorCode ∧
    decodeWireAttr 0x000A#16 = .ok .attrUnknownAttributes ∧ decodeWireAttr 0x0001#16 = .error .codePointNotEmitted := by decide
theorem test_decode_wire_family : decodeWireFamily 0x01#8 = .ok .familyIpv4 ∧ decodeWireFamily 0x02#8 = .ok .familyIpv6 ∧
    decodeWireFamily 0x00#8 = .error .codePointNotEmitted := by decide
theorem test_decode_wire_error : decodeWireError 0x00000400#32 = .ok .errcode400 ∧ decodeWireError 0x00000414#32 = .ok .errcode420 ∧
    decodeWireError 0x00000401#32 = .error .codePointNotEmitted := by decide
/-- Bare words of the opcode table (log entry 14). -/
theorem test_tableWord : decodeTableWord 8 0x11 = some (.startBadFamily 0x11#32) ∧ decodeTableWord 8 0x30 = some (.encU128 0#128) ∧
    decodeTableWord 16 0x0002 = some .buildSuccessV6 ∧ decodeTableWord 16 0x0009 = some .attrErrorCode ∧
    decodeTableWord 32 0x2112A442 = some .rxCookieOk ∧ decodeTableWord 32 0x10 = some .rxShort16to19 := by decide

/-! ## Host commands (95_test_vectors.md 2.5) -/

theorem test_h1_h2 : readReg State.reset (regAt 0#6) = 0x5354554E#32 ∧ readReg State.reset (regAt 1#6) = 0x00000010#32 := by decide
/-- H1, through exec. -/
theorem test_hostRd_exec : (after (exec (.hostRd 0#6) State.reset)).map (·.readData) = some 0x5354554E#32 := by decide
theorem test_h3 : (after (exec (.startBadFamily 0x11#32) State.reset)).map (readReg · .status) = some 0x00000010#32 := by decide
theorem test_h4 : (after (exec (.startReservedOp 0x01#32) e1)).map (fun t => (readReg t .status, readReg t .ctrl)) =
    some (0x00000004#32, 0x00000000#32) := by decide
theorem test_h5 : (after (exec (.startReservedOp 0x31#32) e1)).map (fun t => (readReg t .status, readReg t .ctrl)) =
    some (0x00000004#32, 0x00000030#32) := by decide
/-- H6; the OUTCOME field is drawn while BUSY, so the defined bits are tested. -/
theorem test_h6 : (after (exec (.cmdProcess 0x11#32) e1)).map (fun t => (t.busy, t.done, t.lPort, t.lAddr[3], t.lHdr[5])) =
    some (true, false, 0xB109#16, 0x01#8, 0x12#8) := by decide
theorem test_h7_h8 : (after (exec (.startBusy 0x31#32) e1Busy)).map (fun t => (t.busy, t.errBusy, t.errOp, t.op, t.lPort)) =
    some (true, true, false, 0x3#4, 0xB109#16) := by decide
theorem test_h9 : after (exec (.cmdSoftReset 0x13#32) e1Busy) = some State.reset := by decide
theorem test_h10 : (after (exec (.statusW1c 0x1E#32) { State.reset with
    done := true, errOp := true, errBusy := true, errFamily := true, outcome := 0x1#4 })).map (readReg · .status) =
      some 0x00000100#32 := by decide
theorem test_h11 : after (exec (.statusW1c 0x01#32) e1Busy) = some e1Busy := by decide
theorem test_h12 : (after (exec (.ctrlConfig 0x14#32) { State.reset with done := true })).map (fun t => (t.irqEn, t.irq)) =
    some (true, true) := by decide
theorem test_h13 : (after (exec (.hostWrIgnored 6#6 0xFFFF#32) { State.reset with outLen := 32#16 })).map (·.outLen) = some 32#16 := by
  decide
theorem test_h14 : readReg e1 (regAt 7#6) = 0#32 := by decide
theorem test_h15 : (after (exec (.hostWr 4#6 0x00000102#32) State.reset)).map (·.peerFamily) = some 0x02#8 := by decide
theorem test_h16_step : step { State.reset with events := [.read 0x008 2] } = .refused (.rejected (.hostAccessUndefined 0x008 2)) := rfl

/-! ## The engine and the builders (95_test_vectors.md 2.2, 2.4) -/

/-- R249's example: E1's commit, read through the output window. -/
theorem test_engineCommit_e1 : (after (exec .engineCommit e1Busy)).map (fun t =>
    (t.outLen, t.outcome, t.done, t.busy, [0, 1, 2, 3, 4, 5, 6, 7, 8].map fun k => outWord t.outBuf k)) =
    some (32#16, 0x1#4, true, false, [0x0101000C#32, 0x2112A442#32, 0xECCB9A1A#32, 0xAAA9CD09#32, 0x00000000#32, 0x00200008#32,
      0x0001901B#32, 0x5E12A443#32, 0x00000000#32]) := by decide
/-- V7's length and outcome, IDLE instance: an engine turn holds the state. -/
theorem test_engineCommit_idle : after (exec .engineCommit e1) = some e1 := by decide
/-- V3. -/
theorem test_process_v3 : (after (exec .process (v6Busy 0x00010000#32 0x2112A442#32))).map (fun t => (t.resp, t.respOutcome)) =
    some ([0x01, 0x01, 0x00, 0x18, 0x21, 0x12, 0xa4, 0x42, 0x01, 0x02, 0x03, 0x04, 0x05, 0x06, 0x07, 0x08, 0x09, 0x0a, 0x0b, 0x0c,
      0x00, 0x20, 0x00, 0x14, 0x00, 0x02, 0xde, 0xed, 0x01, 0x13, 0xa9, 0xfa, 0x84, 0xa1, 0x03, 0x04, 0x05, 0x06, 0x8d, 0x26,
      0x0a, 0x7a, 0x78, 0x38], 0x2#4) := by decide
/-- V13. -/
theorem test_process_v13 : (after (exec .process (v6Busy 0x00010000#32 0xDEADBEEF#32))).map (fun t => (t.resp, t.respOutcome)) =
    some ([0x01, 0x11, 0x00, 0x10, 0x21, 0x12, 0xa4, 0x42, 0x01, 0x02, 0x03, 0x04, 0x05, 0x06, 0x07, 0x08, 0x09, 0x0a, 0x0b, 0x0c,
      0x00, 0x0a, 0x00, 0x0c, 0x00, 0x00, 0x04, 0x14, 0xde, 0xad, 0xbe, 0xef, 0x00, 0x00, 0x00, 0x00], 0x5#4) := by decide
/-- V7, by the short rows. -/
theorem test_rxShort_v7 : (after (exec .rxShort0to15 State.reset)).map (·.resp) =
    some [0x01, 0x11, 0x00, 0x14, 0x21, 0x12, 0xa4, 0x42, 0x00, 0x00, 0x00, 0x00, 0x00, 0x00, 0x00, 0x00, 0x00, 0x00, 0x00, 0x00,
      0x00, 0x09, 0x00, 0x10, 0x00, 0x00, 0x04, 0x00, 0x42, 0x61, 0x64, 0x20, 0x72, 0x65, 0x71, 0x75, 0x65, 0x73, 0x74, 0x2e] := by decide
/-- V8: 19 bytes, transaction id not echoed. -/
theorem test_rxShort_v8 : (after (exec .rxShort16to19 { e1Busy with lLen := 19#32 })).map (fun t => ((t.resp.drop 8).take 2, t.respOutcome)) =
    some ([0x00, 0x00], 0x3#4) := by decide
theorem test_rxFullHeader : (after (exec .rxFullHeader e1Busy)).map (·.hCookie) = some 0x2112A442#32 := by decide
/-- R160's example. -/
theorem test_decodeHeader : (after (exec .decodeHeader e1Busy)).map (fun t => (t.hType, t.hMlen, t.hCookie, t.hTxid)) =
    some (0x0001#16, 0x0000#16, 0x2112A442#32, t1) := by decide
/-- R168: doubly invalid. -/
theorem test_validate_type : (after (exec .validate { State.reset with hType := 0x0101#16 })).map (fun t => (t.vout, t.quad)) =
    some (.invalidType, ⟨0x0101#16, 0#16, 0#16, 0#16⟩) := by decide
theorem test_validate_cookie :
    (after (exec .validate { State.reset with hType := 0x0001#16, hCookie := 0x2112A443#32 })).map (fun t => (t.vout, t.quad)) =
      some (.invalidCookie, ⟨0x2112#16, 0xA443#16, 0#16, 0#16⟩) := by decide
theorem test_rxBindingRequest :
    (after (exec .rxBindingRequest { State.reset with hType := 0x0001#16, hCookie := 0xDEADBEEF#32 })).map (fun t => (t.vout, t.quad)) =
      some (.invalidCookie, ⟨0xDEAD#16, 0xBEEF#16, 0#16, 0#16⟩) := by decide
theorem test_rxOtherType : (after (exec .rxOtherType { State.reset with hType := 0xFFFF#16 })).map (fun t => (t.vout, t.quad)) =
    some (.invalidType, ⟨0xFFFF#16, 0#16, 0#16, 0#16⟩) := by decide
theorem test_rxCookieOk :
    (after (exec .rxCookieOk { State.reset with hType := 0x0001#16, hCookie := 0x2112A442#32, vout := .invalidType })).map (·.vout) =
      some .valid := by decide
theorem test_rxCookieBad :
    (after (exec .rxCookieBad { State.reset with hType := 0x0001#16, hCookie := 0x42A41221#32 })).map (·.quad) =
      some ⟨0x42A4#16, 0x1221#16, 0#16, 0#16⟩ := by decide
/-- R215's example. -/
theorem test_buildError : (after (exec .buildError e1Busy)).map (fun t => (t.resp, t.respOutcome)) = some (wire400, 0x3#4) := by decide
/-- V12: the slots. -/
theorem test_buildError420Type :
    (after (exec .buildError420Type { State.reset with quad := ⟨0x0002#16, 0#16, 0#16, 0#16⟩, hTxid := t2 })).map (fun t =>
      (t.resp.drop 20, t.respOutcome)) =
      some ([0x00, 0x0a, 0x00, 0x0c, 0x00, 0x00, 0x04, 0x14, 0x00, 0x02, 0x00, 0x00, 0x00, 0x00, 0x00, 0x00], 0x4#4) := by decide
theorem test_buildError420Cookie :
    (after (exec .buildError420Cookie { State.reset with quad := ⟨0xDEAD#16, 0xBEEF#16, 0#16, 0#16⟩, hTxid := t2 })).map (fun t =>
      (t.resp.drop 28, t.respOutcome)) = some ([0xde, 0xad, 0xbe, 0xef, 0x00, 0x00, 0x00, 0x00], 0x5#4) := by decide
/-- R211's example. -/
theorem test_buildSuccessV4 : (after (exec .buildSuccessV4 { e1Busy with hTxid := t1 })).map (fun t => (t.resp, t.respOutcome)) =
    some ([0x01, 0x01, 0x00, 0x0c, 0x21, 0x12, 0xa4, 0x42, 0xec, 0xcb, 0x9a, 0x1a, 0xaa, 0xa9, 0xcd, 0x09, 0x00, 0x00, 0x00, 0x00,
      0x00, 0x20, 0x00, 0x08, 0x00, 0x01, 0x90, 0x1b, 0x5e, 0x12, 0xa4, 0x43], 0x1#4) := by decide
/-- V4: address ::, port 0, T2. -/
theorem test_buildSuccessV6 : (after (exec .buildSuccessV6 { State.reset with hTxid := t2 })).map (fun t => (t.resp.drop 24, t.respOutcome)) =
    some ([0x00, 0x02, 0x21, 0x12, 0x21, 0x12, 0xa4, 0x42, 0x01, 0x02, 0x03, 0x04, 0x05, 0x06, 0x07, 0x08, 0x09, 0x0a, 0x0b, 0x0c],
      0x2#4) := by decide
/-- V5: the IPv4 branch. -/
theorem test_buildSuccess : (after (exec .buildSuccess { State.reset with lFamily := 0x01#8, hTxid := t2 })).map (·.resp.drop 24) =
    some [0x00, 0x01, 0x21, 0x12, 0x21, 0x12, 0xa4, 0x42] := by decide
theorem test_buildSuccess_otherFamily : exec .buildSuccess State.reset = .refused (.peerFamilyIllegal 0x00#8) := rfl

/-! ## XOR encoder, serializers, codec and code points, called directly (95_test_vectors.md 2.1, 2.3; 42_response_builder.md) -/

/-- The result of a direct call on the machine after reset. -/
def called (i : Instr) : Option Datum := (after (exec i State.reset)).map (·.unitOut)

theorem test_xorPort : called (.xorPort 0xB109#16) = some (.u16 0x901B#16) ∧ called (.xorPort 0xFFFF#16) = some (.u16 0xDEED#16) := by
  decide
theorem test_xorAddrV4 : called (.xorAddrV4 0x7F000001#32) = some (.u32 0x5E12A443#32) := by decide
theorem test_xorMaskV6 : called (.xorMaskV6 t1) = some (.u128 0x2112A442ECCB9A1AAAA9CD0900000000#128) := by decide
theorem test_xorAddrV6 : called (.xorAddrV6 0x20010DB885A3000000008A2E03707334#128 t2) =
    some (.u128 0x0113A9FA84A1030405068D260A7A7838#128) := by decide
theorem test_encHeader : called (.encHeader 0x0111#16 0x0010#16 t2) =
    some (.bytes [0x01, 0x11, 0x00, 0x10, 0x21, 0x12, 0xa4, 0x42, 0x01, 0x02, 0x03, 0x04, 0x05, 0x06, 0x07, 0x08, 0x09, 0x0a, 0x0b, 0x0c]) := by
  decide
theorem test_encAttrHeader : called (.encAttrHeader 0x0020#16 0x0014#16) = some (.bytes [0x00, 0x20, 0x00, 0x14]) := by decide
theorem test_encAddrBodyV4 : called (.encAddrBodyV4 0xB109#16 0x7F000001#32) =
    some (.bytes [0x00, 0x01, 0x90, 0x1b, 0x5e, 0x12, 0xa4, 0x43]) := by decide
theorem test_encAddrBodyV6 : called (.encAddrBodyV6 0x0D96#16 0x20010DB8000000000000000000000001#128 t1) =
    some (.bytes [0x00, 0x02, 0x2c, 0x84, 0x01, 0x13, 0xa9, 0xfa, 0xec, 0xcb, 0x9a, 0x1a, 0xaa, 0xa9, 0xcd, 0x09, 0x00, 0x00, 0x00, 0x01]) := by
  decide
/-- 30_encoding.md R102: class 4, number 20. -/
theorem test_encErrorCode : called (.encErrorCode 420) = some (.bytes [0x00, 0x00, 0x04, 0x14]) := by decide
theorem test_encErrorCode_range : exec (.encErrorCode 700) State.reset = .refused (.rejected (.operandRange 700)) := rfl
theorem test_padReason : called (.padReason [0x61]) = some (.bytes [0x61, 0x00, 0x00, 0x00]) ∧ called (.padReason []) = some (.bytes []) := by
  decide
theorem test_encErrorBody : called (.encErrorBody 400 Config.badRequest) =
    some (.bytes [0x00, 0x00, 0x04, 0x00, 0x42, 0x61, 0x64, 0x20, 0x72, 0x65, 0x71, 0x75, 0x65, 0x73, 0x74, 0x2e]) := by decide
theorem test_encUnknownBody : called (.encUnknownBody 0xDEAD#16 0xBEEF#16 0#16 0#16) =
    some (.bytes [0x00, 0x00, 0x04, 0x14, 0xde, 0xad, 0xbe, 0xef, 0x00, 0x00, 0x00, 0x00]) := by decide
theorem test_decU16 : called (.decU16 [0x00, 0x01, 0xff]) = some (.u16 0x0001#16) := by decide
theorem test_decU16_short : exec (.decU16 [0x00]) State.reset = .fault (.shortSlice 2 1) := rfl
theorem test_decU32 : called (.decU32 [0x42, 0xa4, 0x12, 0x21]) = some (.u32 0x42A41221#32) := by decide
theorem test_decU64 : called (.decU64 [0x00, 0x01, 0x00, 0x00, 0x21, 0x12, 0xa4, 0x42]) = some (.u64 0x000100002112A442#64) := by decide
theorem test_decU96 : called (.decU96 [0xec, 0xcb, 0x9a, 0x1a, 0xaa, 0xa9, 0xcd, 0x09, 0x00, 0x00, 0x00, 0x00]) = some (.u96 t1) := by decide
theorem test_decU128 : called (.decU128 [0x20, 0x01, 0x0d, 0xb8, 0, 0, 0, 0, 0, 0, 0, 0, 0, 0, 0, 0x01]) =
    some (.u128 0x20010DB8000000000000000000000001#128) := by decide
theorem test_encU16 : called (.encU16 0x901B#16) = some (.bytes [0x90, 0x1b]) := by decide
theorem test_encU32 : called (.encU32 0x2112A442#32) = some (.bytes [0x21, 0x12, 0xa4, 0x42]) := by decide
theorem test_encU64 : called (.encU64 0x0123456789ABCDEF#64) = some (.bytes [0x01, 0x23, 0x45, 0x67, 0x89, 0xab, 0xcd, 0xef]) := by decide
theorem test_encU96 : called (.encU96 t2) =
    some (.bytes [0x01, 0x02, 0x03, 0x04, 0x05, 0x06, 0x07, 0x08, 0x09, 0x0a, 0x0b, 0x0c]) := by decide
theorem test_encU128 : called (.encU128 (BitVec.allOnes 128)) = some (.bytes (List.replicate 16 0xff)) := by decide
theorem test_wire_types : called .txSuccessResponse = some (.bytes [0x01, 0x01]) ∧ called .txErrorResponse = some (.bytes [0x01, 0x11]) := by
  decide
theorem test_wire_attrs : called .attrXorMappedAddress = some (.bytes [0x00, 0x20]) ∧ called .attrErrorCode = some (.bytes [0x00, 0x09]) ∧
    called .attrUnknownAttributes = some (.bytes [0x00, 0x0a]) := by decide
theorem test_wire_families : called .familyIpv4 = some (.bytes [0x01]) ∧ called .familyIpv6 = some (.bytes [0x02]) := by decide
theorem test_wire_errors : called .errcode400 = some (.bytes [0x00, 0x00, 0x04, 0x00]) ∧
    called .errcode420 = some (.bytes [0x00, 0x00, 0x04, 0x14]) := by decide

/-! ## Witnesses: the hypotheses of the obligations can be met together -/

theorem witness_StepRunsDecodedEvent : ({ e1 with events := [.rd 0x000] } : State).events = .rd 0x000 :: [] ∧ Event.rd 0x000 ≠ .rst ∧
    decode ({ e1 with events := [.rd 0x000] } : State).view (.rd 0x000) = .ok (.hostRd 0#6) := by decide
theorem witness_StepWithNoEventToCome : e1Busy.events = [] ∧ e1Busy.eng = .busy ∧ e1.events = [] ∧ e1.eng = .idle := by decide
/-- One access for each clause: the width, the alignment, the bound. -/
theorem witness_UndefinedAccessIsRefused : (∃ s : State, s.events = .read 0x008 2 :: []) ∧ (2 ≠ 4) ∧
    (∃ s : State, s.events = .write 0x006 4 0#32 :: []) ∧ (6 % 4 ≠ 0) ∧ (∃ s : State, s.events = .read 0x100 4 :: []) ∧ (0x0FF < 0x100) :=
  ⟨⟨{ e1 with events := [.read 0x008 2] }, rfl⟩, by decide, ⟨{ e1 with events := [.write 0x006 4 0#32] }, rfl⟩, by decide,
    ⟨{ e1 with events := [.read 0x100 4] }, rfl⟩, by decide⟩
theorem witness_DecodeOfEncodeIsIdentity : (Instr.cmdProcess 0x11#32).wf = true ∧ selects idleV4 (.cmdProcess 0x11#32) ∧
    (Instr.rxShort16to19).wf = true ∧ selects { idleV4 with lLen := 19#32 } .rxShort16to19 :=
  ⟨rfl, ⟨rfl, .inl rfl⟩, rfl, by show 16 ≤ _ ∧ _ ≤ 19; decide⟩
theorem witness_DecodedIsSelectedAndEncodesBack : decode idleV4 (.wr 0x004 0x11#32) = .ok (.cmdProcess 0x11#32) := by decide
theorem witness_ResetsGiveResetState : (0x13#32).getLsbD 1 = true ∧ ({ e1Busy with events := [.rst] } : State).events = .rst :: [] := by
  decide
theorem witness_ResetAbandonsProcess : ({ e1Busy with events := [.rst] } : State).eng = .busy ∧ (0x02#32).getLsbD 1 = true ∧
    ({ e1Busy with events := [.rst] } : State).events = .rst :: [] := by decide
theorem witness_IdleReadReturnsRegister : e1.eng = .idle := rfl
theorem witness_BusyReadDrawsFreely : e1Busy.eng = .busy := rfl
/-- Offsets that show no result at the ends of their ranges, and the result offsets' neighbours. -/
theorem witness_OtherReadReturnsRegisterInAnyState : ¬ isResultOffset (4 * (1#6).toNat) ∧ ¬ isResultOffset (4 * (3#6).toNat) ∧
    ¬ isResultOffset (4 * (20#6).toNat) ∧ ¬ isResultOffset (4 * (31#6).toNat) ∧ ¬ isResultOffset (4 * (44#6).toNat) ∧
    ¬ isResultOffset (4 * (63#6).toNat) ∧ isResultOffset (4 * (32#6).toNat) ∧ isResultOffset (4 * (43#6).toNat) := by
  unfold isResultOffset; decide
/-- R270: PEER_PORT reads back while BUSY; a result read is drawn from the instance's own stream, whatever it is. -/
theorem test_busyRead : (after (exec (.hostRd 5#6) e1Busy)).map (·.readData) = some 0x0000B109#32 ∧
    (after (exec (.hostRd 32#6) { e1Busy with stream := 7 })).map (fun t => (t.stream, t.draws)) = some (7, 1) := by decide
/-- The ignored writes at the ends of their ranges. -/
theorem witness_DataWriteStoresDefinedBits : (Instr.hostWrIgnored 0#6 1).wf = true ∧ (Instr.hostWrIgnored 7#6 1).wf = true ∧
    (Instr.hostWrIgnored 43#6 1).wf = true ∧ (Instr.hostWrIgnored 63#6 1).wf = true := by decide
theorem witness_WriteThenReadBack : isDataIndex 3#6 = true ∧ isDataIndex 11#6 = true ∧ isDataIndex 20#6 = true ∧ (4#6 ≠ 20#6) := by decide
theorem witness_StartWhileBusySetsErrBusy : (0x31#32).getLsbD 1 = false ∧ (0x31#32).getLsbD 0 = true ∧ e1Busy.eng = .busy := by decide
theorem witness_StartReservedOpSetsErrOp : (0x01#32).getLsbD 1 = false ∧ (0x01#32).getLsbD 0 = true ∧
    (0x01#32).extractLsb' 4 4 ≠ 0x1#4 ∧ e1.eng = .idle := by decide
theorem witness_StartBadFamilySetsErrFamily : (0x11#32).getLsbD 1 = false ∧ (0x11#32).getLsbD 0 = true ∧
    (0x11#32).extractLsb' 4 4 = 0x1#4 ∧ State.reset.eng = .idle ∧ State.reset.peerFamily ≠ 0x01 ∧ State.reset.peerFamily ≠ 0x02 := by decide
theorem witness_AcceptedStartLatchesInputs : (0x11#32).getLsbD 1 = false ∧ (0x11#32).getLsbD 0 = true ∧
    (0x11#32).extractLsb' 4 4 = 0x1#4 ∧ e1.eng = .idle ∧ (e1.peerFamily = 0x01 ∨ e1.peerFamily = 0x02) := by decide
theorem witness_ConfigStoresCtrlFields : (0x14#32).getLsbD 1 = false ∧ (0x14#32).getLsbD 0 = false := by decide
/-- Each row of R307 with its conditions: reset, busy, OP, family, acceptance, configuration. -/
theorem witness_CtrlWriteFirstConditionWins :
    ({ e1 with events := [.wr 0x004 0x11#32] } : State).events = .wr 0x004 0x11#32 :: [] ∧
    (0x13#32).getLsbD 1 = true ∧
    ((0x31#32).getLsbD 1 = false ∧ (0x31#32).getLsbD 0 = true ∧ e1Busy.eng = .busy) ∧
    (e1.eng = .idle ∧ (0x31#32).extractLsb' 4 4 ≠ 0x1#4) ∧
    ((0x11#32).extractLsb' 4 4 = 0x1#4 ∧ ¬ (State.reset.peerFamily = 0x01 ∨ State.reset.peerFamily = 0x02)) ∧
    (e1.peerFamily = 0x01 ∨ e1.peerFamily = 0x02) ∧
    ((0x14#32).getLsbD 1 = false ∧ (0x14#32).getLsbD 0 = false) := by decide
/-- A data write, and a START, at the lowest and the highest offset while BUSY. -/
theorem witness_LatchSeesOnlyEarlierWrites :
    (e1.eng = .idle ∧ (e1.peerFamily = 0x01 ∨ e1.peerFamily = 0x02) ∧ (0x11#32).extractLsb' 4 4 = 0x1#4) ∧
    (({ e1Busy with events := [.wr 0x0FC 7#32] } : State).events = .wr 0x0FC 7#32 :: [] ∧ 0x0FC % 4 = 0 ∧ e1Busy.eng = .busy) ∧
    (({ e1Busy with events := [.wr 0x004 0x11#32] } : State).events = .wr 0x004 0x11#32 :: [] ∧ (0x11#32).getLsbD 1 = false) := by decide
theorem witness_CommitIsWireResponse : e1Busy.eng = .busy ∧ e1Busy.lFamily = 0x01 ∧ (v6Busy 0 0).eng = .busy ∧ (v6Busy 0 0).lFamily = 0x02 := by
  decide
theorem witness_ProcessIsTotal : e1Busy.lFamily = 0x01 ∧ (v6Busy 0 0).lFamily = 0x02 := by decide
theorem witness_ProcessShortFrameGives400 : ({ e1Busy with lLen := 19#32 } : State).lLen.toNat < 20 := by decide
theorem witness_TransactionIdIsEchoed : 20 ≤ e1Busy.lLen.toNat ∧ (e1Busy.lFamily = 0x01 ∨ e1Busy.lFamily = 0x02) := by decide
theorem witness_LengthFieldsAreDerived : e1Busy.lFamily = 0x01 ∨ e1Busy.lFamily = 0x02 := by decide
/-- Two BUSY states on one latch that differ elsewhere. -/
theorem witness_ResultDependsOnLatchOnly : e1Busy.eng = .busy ∧ ({ e1Busy with inLen := 3#32, resp := [0x55] } : State).eng = .busy ∧
    SameLatch e1Busy { e1Busy with inLen := 3#32, resp := [0x55] } ∧ (e1Busy.lFamily = 0x01 ∨ e1Busy.lFamily = 0x02) :=
  ⟨rfl, rfl, ⟨rfl, rfl, rfl, rfl, rfl⟩, .inl rfl⟩
/-- The three grounds: short, wrong type, wrong cookie, each for two peers. -/
theorem witness_PeerMattersOnlyWhenValid :
    (({ e1Busy with lLen := 19#32 } : State).lLen.toNat < 20 ∧ ({ e1Busy with lLen := 19#32, lPort := 9#16 } : State).lLen.toNat < 20) ∧
    (v6Busy 0x00020000#32 0x2112A442#32).lHdr.toList.take 2 ≠ [0x00, 0x01] ∧
    ((v6Busy 0x00010000#32 0xDEADBEEF#32).lHdr.toList.drop 4).take 4 ≠ [0x21, 0x12, 0xA4, 0x42] := by decide
theorem witness_ValidateTestsTypeThenCookie : ((0x0000#16) ≠ 0x0001 ∧ State.reset.hType ≠ 0x0001) ∧
    (({ e1 with hType := 0x0001#16 } : State).hType = 0x0001 ∧ ({ e1 with hType := 0x0001#16 } : State).hCookie ≠ 0x2112A442) ∧
    (({ e1 with hType := 0x0001#16, hCookie := 0x2112A442#32 } : State).hType = 0x0001 ∧
      ({ e1 with hType := 0x0001#16, hCookie := 0x2112A442#32 } : State).hCookie = 0x2112A442) := by decide
theorem witness_ValidatorRowsActAsSelected : State.reset.hType ≠ 0x0001 ∧
    (({ e1 with hType := 0x0001#16, hCookie := 0x2112A443#32 } : State).hType = 0x0001 ∧
      ({ e1 with hType := 0x0001#16, hCookie := 0x2112A443#32 } : State).hCookie ≠ 0x2112A442) ∧
    (({ e1 with hType := 0x0001#16, hCookie := 0x2112A442#32 } : State).hType = 0x0001 ∧
      ({ e1 with hType := 0x0001#16, hCookie := 0x2112A442#32 } : State).hCookie = 0x2112A442) := by decide
/-- The ends of the three ranges; no length falls under two. -/
theorem witness_LengthRowsActAsSelected : (15#32).toNat ≤ 15 ∧ (16 ≤ (16#32).toNat ∧ (16#32).toNat ≤ 19) ∧ (16 ≤ (19#32).toNat ∧
    (19#32).toNat ≤ 19) ∧ 20 ≤ (20#32).toNat ∧ ¬ ((15#32).toNat ≥ 16) ∧ ¬ ((20#32).toNat ≤ 19) := by decide
theorem witness_FamilyPicksSuccessBuilder : e1Busy.lFamily = 0x01 ∧ (v6Busy 0 0).lFamily = 0x02 ∧ State.reset.lFamily ≠ 0x01 ∧
    State.reset.lFamily ≠ 0x02 := by decide
theorem witness_DselSelectsTheBuilder : (e1Busy.lFamily = 0x01 ∧ 20 ≤ e1Busy.lLen.toNat) ∧
    (({ e1Busy with lLen := 19#32 } : State).lFamily = 0x01 ∧ ({ e1Busy with lLen := 19#32 } : State).lLen.toNat < 20) := by decide
/-- The ends of the operand range, inside and outside. -/
theorem witness_ErrorSerializers : (300 ≤ 300 ∧ 300 ≤ 699) ∧ (300 ≤ 699 ∧ 699 ≤ 699) ∧ ¬ (300 ≤ 299 ∧ 299 ≤ 699) ∧
    ¬ (300 ≤ 700 ∧ 700 ≤ 699) := by decide
/-- Slices of exactly the width, and one byte shorter. -/
theorem witness_DecodersReadFirstBytes : 2 ≤ (zeros 2).length ∧ (zeros 1).length < 2 ∧ 4 ≤ (zeros 4).length ∧ (zeros 3).length < 4 ∧
    8 ≤ (zeros 8).length ∧ (zeros 7).length < 8 ∧ 12 ≤ (zeros 12).length ∧ (zeros 11).length < 12 ∧ 16 ≤ (zeros 16).length ∧
    (zeros 15).length < 16 := by decide
theorem witness_CodecRoundTrips : 2 ≤ (zeros 2).length ∧ 4 ≤ (zeros 4).length ∧ 8 ≤ (zeros 8).length ∧ 12 ≤ (zeros 12).length ∧
    16 ≤ (zeros 16).length := by decide

/-- E1's BUSY state meets the invariant. -/
theorem e1Busy_inv : Inv e1Busy where
  outcome_produced := by decide
  outLen_matches := by decide
  out_zero_past := by decide
  done_not_busy := by decide
  busy_family := by decide
  resp_matches := by decide
  respOutcome_produced := by decide

theorem witness_InvariantKeptByEveryStep : Inv e1Busy ∧ ∃ t, step e1Busy = .next t := ⟨e1Busy_inv, process_completes (.inl rfl) |>.elim
  fun u hu => ⟨commit u, by
    have : step e1Busy = engineTurn e1Busy := rfl
    rw [this]; unfold engineTurn; rw [hu]; rfl⟩⟩
theorem witness_BusyEngineCommitsWhenNoEventIsToCome : Inv e1Busy ∧ e1Busy.eng = .busy ∧ e1Busy.events = [] := ⟨e1Busy_inv, rfl, rfl⟩
/-- A commit changes the result. -/
theorem witness_ResultChangesOnlyByCommitOrReset : (after (step e1Busy)).isSome = true ∧
    (after (step e1Busy)).map (·.outcome) ≠ some e1Busy.outcome := by decide
/-- A STATUS write clears each error bit. -/
theorem witness_ErrorBitsAreSticky : (after (step { State.reset with
    errOp := true, errBusy := true, errFamily := true, events := [.wr 0x008 0x1C#32] })).map (fun t => (t.errOp, t.errBusy, t.errFamily)) =
      some (false, false, false) := by decide
/-- An accepted START changes the latch. -/
theorem witness_LatchChangesOnlyByStartOrReset : (after (step { e1 with events := [.startCmd] })).map (·.lPort) = some 0xB109#16 ∧
    e1.lPort ≠ 0xB109#16 := by decide
/-- Both transitions occur. -/
theorem witness_EngineStateTransitions : (e1Busy.eng = .busy ∧ (after (step e1Busy)).map (·.eng) = some .idle) ∧
    (e1.eng = .idle ∧ (after (step { e1 with events := [.startCmd] })).map (·.eng) = some .busy) := by decide

/-- A platform of two instances, the second one BUSY, whose IRQ lines go to input 5. -/
def pair : Platform :=
  { bases := [0x1000, 0x1100], irqRoute := [(0, 5), (1, 5)], engines := [State.reset, { e1Busy with stream := 1 }] }

/-- The state a platform event answers, where it answers one. -/
def platformAfter : Host.Outcome Platform Fault Refusal → Option Platform
  | .next p => some p
  | .fault _ => none
  | .refused _ => none

theorem witness_InstancesDoNotInteract : route pair 0x110C = some (1, 0x00C) ∧ 0 ≠ 1 ∧
    (platformAfter (platformStep (.read 0x110C 4) pair)).isSome = true ∧
    (platformAfter (platformStep (.write 0x110C 4 5#32) pair)).isSome = true ∧
    (platformAfter (platformStep (.turn 1) pair)).isSome = true := by decide
theorem witness_AccessReachesItsInstance : platformWf pair = true ∧ pair.bases[1]? = some 0x1100 ∧ 0x0FC < 0x100 ∧
    pair.engines[1]? = some { e1Busy with stream := 1 } ∧
    (after (step { e1Busy with stream := 1, events := [.read 0x00C 4] })).isSome = true ∧
    (after (step { e1Busy with stream := 1, events := [.write 0x0FC 4 5#32] })).isSome = true ∧
    step { e1Busy with stream := 1, events := [.read 0x0FC 2] } = .refused (.rejected (.hostAccessUndefined 0x0FC 2)) ∧
    step { e1Busy with stream := 1, events := [.write 0x0FE 4 5#32] } = .refused (.rejected (.hostAccessUndefined 0x0FE 4)) :=
  ⟨by decide, by decide, by decide, by decide, by decide, by decide, rfl, rfl⟩
/-- A write reaches the second instance at its offset, and the first stays. -/
theorem test_platform_write : (platformAfter (platformStep (.write 0x1114 4 0xB109#32) pair)).map (fun q =>
    q.engines.map (·.peerPort)) = some [0x0000#16, 0xB109#16] := by decide
theorem test_platform_irq : irqSources { pair with engines := [State.reset, { e1Busy with irqEn := true, errOp := true }] } 5 = [1] ∧
    irqSources pair 5 = [] := by decide
theorem witness_PlatformEventsKeepItsArguments : platformWf pair = true ∧
    (platformAfter (platformStep (.turn 1) pair)).isSome = true := by decide
theorem witness_InstancesStartTogetherAtReset : 1 ≤ [0x1000, 0x1100].length ∧ disjointBases [0x1000, 0x1100] ∧
    ∀ r ∈ [((0 : Nat), (5 : Nat)), (1, 0)], r.1 < [0x1000, 0x1100].length := by decide
/-- An access outside every block is refused (20_memory.md R65). -/
theorem test_platform_outside : platformStep (.read 0x1200 4) pair = .refused (.rejected (.hostAccessUndefined 0x1200 4)) := rfl

end Sys2Proof.Tests
end

section
/-! SUPPORT. What every event of a platform keeps, the platform right after reset, and the sources of a host interrupt input
(00_scope.md R8, 60_exceptions.md R310, R313). -/

namespace Sys2Proof.Machine

/-! ## The parts of a platform every event keeps -/

theorem platformWf_iff {p : Platform} : platformWf p = true ↔
    1 ≤ p.engines.length ∧ p.bases.length = p.engines.length ∧ disjointBases p.bases ∧
      (∀ r ∈ p.irqRoute, r.1 < p.engines.length) ∧ (p.engines.map State.stream).Nodup := by
  simp [platformWf, and_assoc]

theorem length_eq_of_map_stream_eq {l m : List State} (h : l.map State.stream = m.map State.stream) : l.length = m.length := by
  simpa using congrArg List.length h

/-- Of its instances a platform's well-formedness reads only their number and their streams. -/
theorem platformWf_congr {p q : Platform} (hb : q.bases = p.bases) (hr : q.irqRoute = p.irqRoute)
    (hs : q.engines.map State.stream = p.engines.map State.stream) : platformWf q = platformWf p := by
  simp only [platformWf, hb, hr, hs, length_eq_of_map_stream_eq hs]

/-- The common reset keeps every instance's stream (log entry 8). -/
@[simp] theorem map_stream_resetInstance (l : List State) :
    (l.map resetInstance).map State.stream = l.map State.stream := by
  rw [List.map_map]
  exact List.map_congr_left fun s _ => resetInstance_stream s

/-- An event changes neither the arguments of a platform nor the streams of its instances: each of the three things an event can do
touches the instances alone, and a step of an instance keeps its stream. -/
theorem platformStep_keeps_arguments {p q : Platform} {e : PlatformEvent} (h : platformStep e p = .next q) :
    q.bases = p.bases ∧ q.irqRoute = p.irqRoute ∧ q.engines.map State.stream = p.engines.map State.stream := by
  obtain rfl | ⟨k, s, u, t, hs, ht, hu, rfl⟩ | ⟨-, rfl⟩ := platformStep_cases h
  · exact ⟨rfl, rfl, rfl⟩
  · exact ⟨rfl, rfl, map_stream_set hs ((step_stream ht).trans hu)⟩
  · exact ⟨rfl, rfl, map_stream_resetInstance p.engines⟩

/-! ## Reset -/

@[simp] theorem resetInstance_hw (s : State) : (resetInstance s).hw = State.reset := rfl

/-- Instance k of a platform after reset draws from stream k. -/
@[simp] theorem map_stream_reset (bases : List Nat) (irqRoute : List (Nat × Nat)) :
    (Platform.reset bases irqRoute).engines.map State.stream = List.range bases.length := by
  simp [Platform.reset, Function.comp_def]

@[simp] theorem reset_engines_length (bases : List Nat) (irqRoute : List (Nat × Nat)) :
    (Platform.reset bases irqRoute).engines.length = bases.length := by
  simp [Platform.reset]

theorem platformWf_reset {bases : List Nat} {irqRoute : List (Nat × Nat)} (h1 : 1 ≤ bases.length) (hd : disjointBases bases)
    (hr : ∀ r ∈ irqRoute, r.1 < bases.length) : platformWf (Platform.reset bases irqRoute) = true := by
  rw [platformWf_iff, reset_engines_length, map_stream_reset]
  exact ⟨h1, rfl, hd, hr, List.nodup_range⟩

theorem hw_of_mem_reset {bases : List Nat} {irqRoute : List (Nat × Nat)} {s : State}
    (h : s ∈ (Platform.reset bases irqRoute).engines) : s.hw = State.reset := by
  obtain ⟨k, -, rfl⟩ := List.mem_map.mp h
  rfl

/-! ## Interrupt lines -/

/-- The IRQ line is 1 where IRQ_EN and one of its four causes are (10_state.md R32). -/
theorem irq_eq_true_iff {s : State} : s.irq = true ↔
    s.irqEn = true ∧ (s.done = true ∨ s.errOp = true ∨ s.errBusy = true ∨ s.errFamily = true) := by
  simp [State.irq, or_assoc]

theorem irqLevel_eq_true_iff {p : Platform} {k : Nat} :
    irqLevel p k = true ↔ ∃ s, p.engines[k]? = some s ∧ s.irq = true := by
  unfold irqLevel
  split
  · rename_i h; simp [h]
  · rename_i s h; simp [h]

theorem mem_irqSources_iff {p : Platform} {n k : Nat} :
    k ∈ irqSources p n ↔ (k, n) ∈ p.irqRoute ∧ irqLevel p k = true := by
  simp [irqSources]

end Sys2Proof.Machine
end

section
/-! The obligations of 00_scope.md. -/

namespace Sys2Proof.Machine

/-- Settles O58: every event keeps the arguments and the streams, and well-formedness reads nothing else of a platform. -/
theorem platformEventsKeepItsArguments : Obligations.PlatformEventsKeepItsArguments := by
  intro p q e hwf h
  obtain ⟨hb, hr, hs⟩ := platformStep_keeps_arguments h
  exact ⟨(platformWf_congr hb hr hs).trans hwf, hb, hr, length_eq_of_map_stream_eq hs, hs⟩

/-- Settles O59: the platform after reset is built from reset instances on streams 0, 1, and so on, and RST resets every instance. -/
theorem instancesStartTogetherAtReset : Obligations.InstancesStartTogetherAtReset := by
  refine ⟨fun bases irqRoute h1 hd hr => ⟨platformWf_reset h1 hd hr, fun k s hs => ?_⟩, fun p => ?_⟩
  · exact hw_of_mem_reset (List.mem_of_getElem? hs)
  · refine ⟨_, rfl, by simp, fun k s hs => ?_⟩
    obtain ⟨u, -, rfl⟩ := List.mem_map.mp (List.mem_of_getElem? hs)
    exact resetInstance_hw u

/-- Settles O57: the sources of an input are the wired instances whose IRQ line is 1, and R32 says when it is. -/
theorem irqReachesItsWiredInputs : Obligations.IrqReachesItsWiredInputs := by
  intro p n k
  simp only [mem_irqSources_iff, irqLevel_eq_true_iff, irq_eq_true_iff]

end Sys2Proof.Machine
end

section
/-! SUPPORT. The steps sorted by what they do to the registers of 10_state.md: a reset, a STATUS write, an accepted START, a commit,
or a quiet step, which moves neither ENG_STATE nor DONE, the latch nor the committed result, and clears no error bit. -/

namespace Sys2Proof.Machine

/-! ## Quiet steps -/

/-- No error bit goes from 1 to 0 (10_state.md R23). -/
def NoErrorCleared (s t : State) : Prop :=
  (s.errOp = true → t.errOp = true) ∧ (s.errBusy = true → t.errBusy = true) ∧ (s.errFamily = true → t.errFamily = true)

/-- RESP has the length of its outcome, a code that is produced (10_state.md R36, 60_exceptions.md R301). -/
def RespMatches (s : State) : Prop := s.resp.length = frameLength s.respOutcome ∧ s.respOutcome.toNat ≤ 5

/-- What a step keeps that neither resets, writes STATUS, accepts a START nor commits: host reads, data writes, the other CTRL writes,
an idle engine's turn and direct calls. -/
structure Quiet (s t : State) : Prop where
  eng : t.eng = s.eng
  done : t.done = s.done
  latch : SameLatch s t
  result : SameResult s t
  errors : NoErrorCleared s t
  resp : (t.resp = s.resp ∧ t.respOutcome = s.respOutcome) ∨ RespMatches t

theorem sameLatch_refl (s : State) : SameLatch s s := ⟨rfl, rfl, rfl, rfl, rfl⟩

theorem sameResult_refl (s : State) : SameResult s s := ⟨rfl, rfl, rfl⟩

theorem noErrorCleared_refl (s : State) : NoErrorCleared s s := ⟨id, id, id⟩

theorem quiet_refl (s : State) : Quiet s s :=
  ⟨rfl, rfl, sameLatch_refl s, sameResult_refl s, noErrorCleared_refl s, .inl ⟨rfl, rfl⟩⟩

/-- `Quiet` reads nothing of the events to come. -/
theorem quiet_of_withoutEvent {s t : State} {rest : List Event} (h : Quiet { s with events := rest } t) : Quiet s t := { h with }

theorem quiet_hostRead (r : Reg) (s : State) : Quiet s (hostRead r s) := { quiet_refl s with }

theorem quiet_storeCtrl (v : Word) (s : State) : Quiet s (storeCtrl v s) := { quiet_refl s with }

theorem quiet_refuseBusy (v : Word) (s : State) : Quiet s (refuseBusy v s) :=
  { quiet_refl s with errors := ⟨id, fun _ => rfl, id⟩ }

theorem quiet_refuseOp (v : Word) (s : State) : Quiet s (refuseOp v s) :=
  { quiet_refl s with errors := ⟨fun _ => rfl, id, id⟩ }

theorem quiet_refuseFamily (v : Word) (s : State) : Quiet s (refuseFamily v s) :=
  { quiet_refl s with errors := ⟨id, id, fun _ => rfl⟩ }

theorem quiet_writeReg (r : Reg) (v : Word) (s : State) : Quiet s (writeReg r v s) := by
  cases r <;> exact { quiet_refl s with }

theorem quiet_of_datapathOnly {s t : State} (h : DatapathOnly s t) : Quiet s t := by
  obtain ⟨hframe, hresp⟩ := h
  have hresp : (t.resp = s.resp ∧ t.respOutcome = s.respOutcome) ∨ RespMatches t :=
    hresp.imp_right fun ⟨hlen, hcode, _⟩ => ⟨hlen, hcode⟩
  refine ⟨?_, ?_, ?_, ?_, ?_, hresp⟩ <;> rw [hframe]
  · exact sameLatch_refl s
  · exact sameResult_refl s
  · exact noErrorCleared_refl s

theorem quiet_process {s t : State} (h : process s = .next t) : Quiet s t := quiet_of_datapathOnly (datapathOnly_process h)

/-! ## The kinds of step -/

/-- The CTRL write v is a START of PROCESS that the state accepts (44_host_commands.md R274). -/
def StartAccepted (v : Word) (s : State) : Prop :=
  v.getLsbD 0 = true ∧ v.getLsbD 1 = false ∧ v.extractLsb' 4 4 = 0x1#4 ∧ s.eng = .idle ∧
    (s.peerFamily = 0x01#8 ∨ s.peerFamily = 0x02#8)

/-- A CTRL write resets, is an accepted START, or is quiet. -/
theorem ctrlWrite_kinds (v : Word) (s : State) :
    (v.getLsbD 1 = true ∧ ctrlWrite v s = resetInstance s) ∨
    (StartAccepted v s ∧ ctrlWrite v s = acceptStart v s) ∨
    Quiet s (ctrlWrite v s) := by
  obtain h | ⟨-, -, e⟩ | ⟨-, -, -, e⟩ | ⟨-, -, -, -, e⟩ | ⟨-, -, -, -, -, e⟩ | ⟨h1, h0, hi, hop, hf, e⟩ := ctrlWrite_cases v s
  · exact .inl h
  · exact .inr (.inr (e ▸ quiet_storeCtrl v s))
  · exact .inr (.inr (e ▸ quiet_refuseBusy v s))
  · exact .inr (.inr (e ▸ quiet_refuseOp v s))
  · exact .inr (.inr (e ▸ quiet_refuseFamily v s))
  · exact .inr (.inl ⟨⟨h0, h1, hop, hi, hf⟩, e⟩)

/-- The engine's turn commits what PROCESS returns, or is quiet. -/
theorem engineTurn_kinds {s t : State} (h : engineTurn s = .next t) :
    (s.eng = .busy ∧ ∃ p, process s = .next p ∧ t = commit p) ∨ Quiet s t := by
  obtain ⟨-, rfl⟩ | hcommit := engineTurn_cases h
  · exact .inr (quiet_refl t)
  · exact .inl hcommit

/-- The kinds of step. A step that is neither a reset, a STATUS write, an accepted START nor a commit is quiet. -/
theorem step_kinds {s t : State} (h : step s = .next t) :
    Quiet s t ∨
    ∃ rest, let u : State := { s with events := rest }
      (IsResetStep s ∧ t = resetInstance u) ∨
      (∃ v, s.events = .wr 0x008 v :: rest ∧ t = clearFlags v u) ∨
      (∃ v, s.events = .wr 0x004 v :: rest ∧ StartAccepted v s ∧ t = acceptStart v u) ∨
      (IsCommitStep s ∧ ∃ p, process u = .next p ∧ t = commit p) := by
  obtain ⟨he, h⟩ | ⟨rest, ⟨he, rfl⟩ | ⟨off, r, he, rfl⟩ | ⟨v, he, rfl⟩ | ⟨v, he, rfl⟩ | ⟨off, v, r, he, -, -, rfl⟩ | ⟨he, h⟩ |
    ⟨e, he, -, h⟩⟩ := step_cases h
  · obtain ⟨hb, hp⟩ | hq := engineTurn_kinds h
    · exact .inr ⟨s.events, .inr (.inr (.inr ⟨⟨hb, .inl he⟩, hp⟩))⟩
    · exact .inl hq
  · exact .inr ⟨rest, .inl ⟨⟨rest, .inl he⟩, rfl⟩⟩
  · exact .inl (quiet_of_withoutEvent (quiet_hostRead r _))
  · obtain ⟨hv, hr⟩ | ⟨hs, ha⟩ | hq := ctrlWrite_kinds v { s with events := rest }
    · exact .inr ⟨rest, .inl ⟨⟨rest, .inr ⟨v, hv, he⟩⟩, hr⟩⟩
    · exact .inr ⟨rest, .inr (.inr (.inl ⟨v, he, hs, ha⟩))⟩
    · exact .inl (quiet_of_withoutEvent hq)
  · exact .inr ⟨rest, .inr (.inl ⟨v, he, rfl⟩)⟩
  · exact .inl (quiet_of_withoutEvent (quiet_writeReg r v _))
  · obtain ⟨hb, hp⟩ | hq := engineTurn_kinds h
    · exact .inr ⟨rest, .inr (.inr (.inr ⟨⟨hb, .inr ⟨rest, he⟩⟩, hp⟩))⟩
    · exact .inl (quiet_of_withoutEvent hq)
  · exact .inl (quiet_of_withoutEvent (quiet_of_datapathOnly h))

/-! ## The invariant over each kind of step -/

theorem inv_reset : Inv State.reset where
  outcome_produced := by decide
  outLen_matches := by decide
  out_zero_past i _ := by simp [State.reset]
  done_not_busy _ := rfl
  busy_family h := by cases h
  resp_matches := by decide
  respOutcome_produced := by decide

theorem inv_resetInstance (s : State) : Inv (resetInstance s) := { inv_reset with }

theorem inv_clearFlags {s : State} (h : Inv s) (v : Word) (rest : List Event) :
    Inv (clearFlags v { s with events := rest }) :=
  { h with done_not_busy := fun hb => by simp [h.done_not_busy hb] }

theorem inv_acceptStart {s : State} {v : Word} (h : Inv s) (hs : StartAccepted v s) (rest : List Event) :
    Inv (acceptStart v { s with events := rest }) := by
  obtain ⟨-, -, -, -, hf⟩ := hs
  exact { h with done_not_busy := fun _ => rfl, busy_family := fun _ => hf }

/-- No frame is longer than the output window. -/
theorem frameLength_le (o : BitVec 4) : frameLength o ≤ 48 := by revert o; decide

/-- A commit meets the invariant whatever the state was: OUT_LEN counts RESP, and OUT is zeroed past it (43_request_processor.md
R249). -/
theorem inv_commit {p : State} (h : RespMatches p) : Inv (commit p) := by
  obtain ⟨hlen, hcode⟩ := h
  have hout : (lengthField p.resp).toNat = p.resp.length := by
    have := frameLength_le p.respOutcome
    rw [lengthField, BitVec.toNat_ofNat]
    omega
  exact {
    outcome_produced := hcode
    outLen_matches := hout.trans hlen
    out_zero_past := fun i hi => by
      have hpast : p.resp.length ≤ i.val := hout ▸ hi
      simp [hpast]
    done_not_busy := fun hb => by cases hb
    busy_family := fun hb => by cases hb
    resp_matches := hlen
    respOutcome_produced := hcode }

theorem inv_of_quiet {s t : State} (h : Inv s) (hq : Quiet s t) : Inv t := by
  obtain ⟨heng, hdone, ⟨-, -, hfam, -, -⟩, ⟨hbuf, hlen, hcode⟩, -, hresp⟩ := hq
  have hmatch : RespMatches t := by
    obtain ⟨h1, h2⟩ | h := hresp
    · exact ⟨by rw [h1, h2]; exact h.resp_matches, by rw [h2]; exact h.respOutcome_produced⟩
    · exact h
  exact {
    outcome_produced := hcode ▸ h.outcome_produced
    outLen_matches := hlen ▸ hcode ▸ h.outLen_matches
    out_zero_past := hlen ▸ hbuf ▸ h.out_zero_past
    done_not_busy := fun hb => hdone.trans (h.done_not_busy (heng.symm.trans hb))
    busy_family := fun hb => hfam ▸ h.busy_family (heng.symm.trans hb)
    resp_matches := hmatch.1
    respOutcome_produced := hmatch.2 }

/-! ## The latch and the error bits over each kind of step -/

/-- A commit changes no latch register and no error bit: PROCESS is quiet, and the commit reaches neither. -/
theorem commit_process_keeps {s p : State} {rest : List Event} (h : process { s with events := rest } = .next p) :
    SameLatch s (commit p) ∧ NoErrorCleared s (commit p) :=
  have hq := quiet_process h
  ⟨hq.latch, hq.errors⟩

/-- Only a reset or a STATUS write clears an error bit. -/
theorem step_errorBits {s t : State} (h : step s = .next t) :
    IsResetStep s ∨
    (∃ v rest, s.events = .wr 0x008 v :: rest ∧ t = clearFlags v { s with events := rest }) ∨
    NoErrorCleared s t := by
  obtain hq | ⟨rest, ⟨hr, -⟩ | ⟨v, he, ht⟩ | ⟨v, -, -, rfl⟩ | ⟨-, p, hp, rfl⟩⟩ := step_kinds h
  · exact .inr (.inr hq.errors)
  · exact .inl hr
  · exact .inr (.inl ⟨v, rest, he, ht⟩)
  · exact .inr (.inr (noErrorCleared_refl s))
  · exact .inr (.inr (commit_process_keeps hp).2)

end Sys2Proof.Machine
end

section
/-! The obligations of 10_state.md. -/

namespace Sys2Proof.Machine

/-- Settles O47: each kind of step keeps the invariant; a commit and a reset establish it anew. -/
theorem invariantKeptByEveryStep : Obligations.InvariantKeptByEveryStep := by
  intro s t hi h
  obtain hq | ⟨rest, ⟨-, rfl⟩ | ⟨v, -, rfl⟩ | ⟨v, -, hs, rfl⟩ | ⟨-, p, hp, rfl⟩⟩ := step_kinds h
  · exact inv_of_quiet hi hq
  · exact inv_resetInstance _
  · exact inv_clearFlags hi v rest
  · exact inv_acceptStart hi hs rest
  · obtain ⟨hlen, hcode, -⟩ := process_resp hp
    exact inv_commit ⟨hlen, hcode⟩

/-- Settles O48: after reset OUTCOME is NONE, OUT and RESP are empty, and the engine is IDLE. -/
theorem invariantHoldsAtReset : Obligations.InvariantHoldsAtReset := inv_reset

/-- Settles O50: where a step is neither a reset nor a STATUS write no error bit falls, and a STATUS write clears a bit only where it
has a 1. -/
theorem errorBitsAreSticky : Obligations.ErrorBitsAreSticky := by
  intro s t h
  obtain hr | ⟨v, rest, he, rfl⟩ | ⟨hop, hbusy, hfam⟩ := step_errorBits h
  · exact ⟨fun _ _ => .inl hr, fun _ _ => .inl hr, fun _ _ => .inl hr⟩
  · exact ⟨fun h1 h0 => .inr ⟨v, rest, by simpa [h1] using h0, he⟩, fun h1 h0 => .inr ⟨v, rest, by simpa [h1] using h0, he⟩,
      fun h1 h0 => .inr ⟨v, rest, by simpa [h1] using h0, he⟩⟩
  · exact ⟨fun h1 h0 => by simp [hop h1] at h0, fun h1 h0 => by simp [hbusy h1] at h0, fun h1 h0 => by simp [hfam h1] at h0⟩

/-- Settles O51: of the kinds of step only a reset and an accepted START reach the latch. -/
theorem latchChangesOnlyByStartOrReset : Obligations.LatchChangesOnlyByStartOrReset := by
  intro s t h hne
  obtain hq | ⟨rest, ⟨hr, -⟩ | ⟨v, -, rfl⟩ | ⟨v, he, ⟨h0, h1, hop, hidle, hf⟩, rfl⟩ | ⟨-, p, hp, rfl⟩⟩ := step_kinds h
  · exact absurd hq.latch hne
  · exact .inl hr
  · exact absurd (sameLatch_refl s) hne
  · exact .inr ⟨hidle, rfl, hf, v, rest, h0, h1, hop, he⟩
  · exact absurd (commit_process_keeps hp).1 hne

/-- Settles O52: a quiet step and a STATUS write keep ENG_STATE; a commit, a reset and an accepted START set it, each as stated. -/
theorem engineStateTransitions : Obligations.EngineStateTransitions := by
  intro s t h
  obtain hq | ⟨rest, ⟨hr, rfl⟩ | ⟨v, -, rfl⟩ | ⟨v, he, ⟨h0, h1, hop, hidle, -⟩, rfl⟩ | ⟨hc, p, -, rfl⟩⟩ := step_kinds h
  · exact ⟨fun hb hi => by simp [hq.eng, hb] at hi, fun hi hb => by simp [hq.eng, hi] at hb⟩
  · exact ⟨fun _ _ => .inr hr, fun _ hb => by simp [State.reset] at hb⟩
  · exact ⟨fun hb hi => by simp [hb] at hi, fun hi hb => by simp [hi] at hb⟩
  · exact ⟨fun _ hi => by simp at hi, fun _ _ => ⟨v, rest, he, h0, h1, hop, rfl⟩⟩
  · exact ⟨fun _ _ => .inl ⟨hc, rfl⟩, fun _ hb => by simp at hb⟩

/-- Settles O23: the five inputs are those of R32, and IRQ_EN is 0 at reset. -/
theorem irqIsLevelOfItsInputs : Obligations.IrqIsLevelOfItsInputs := ⟨fun _ => irq_eq_true_iff, rfl⟩

end Sys2Proof.Machine
end

section
/-! SUPPORT. Host accesses: what a read shows while BUSY, how the byte windows pack into words, which writes leave the latch alone,
and where an access on a platform goes (20_memory.md). -/

namespace Sys2Proof.Machine

/-! ## Accesses without a meaning -/

theorem accessDefined_eq_false {off n : Nat} (h : n ≠ 4 ∨ off % 4 ≠ 0 ∨ 0x0FF < off) : accessDefined off n = false := by
  rw [← Bool.not_eq_true, accessDefined_iff]
  omega

/-- A step whose event decodes to no instruction is refused by the reason (20_memory.md R65). -/
theorem step_rejected {s : State} {e : Event} {rest : List Event} {r : Reject} (he : s.events = e :: rest) (hr : e ≠ .rst)
    (hd : decode s.view e = .error r) : step s = .refused (.rejected r) := by
  unfold step
  split
  · simp_all
  · simp_all
  · rename_i e' rest' _ he'
    obtain ⟨rfl, rfl⟩ := List.cons.inj (he.symm.trans he')
    rw [hd]

/-! ## Reads -/

@[simp] theorem hostRead_hw (r : Reg) (s : State) : (hostRead r s).hw = s.hw := rfl

/-- A drawn read is counted, and shows its word (20_memory.md R73). -/
theorem exec_hostRd_drawn {s : State} {idx : BitVec 6} {r : Reg} (hr : regAt idx = r) (hb : s.eng = .busy)
    (hd : drawsOnRead r = true) :
    exec (.hostRd idx) s = .next { s with readData := readReg s r, draws := s.draws + 1 } := by
  have hdrawn : isDrawn s r = true := by simp [isDrawn, hb, hd]
  show Host.Outcome.next (hostRead (regAt idx) s) = _
  simp only [hostRead, hr, hdrawn, if_true]

/-- The word indexes of the output window (10_state.md R31). -/
theorem regAt_outBuf (k : Fin 12) : regAt (BitVec.ofNat 6 (32 + k)) = .outBuf k := by revert k; decide

/-- Cutting a word to its low half is masking it. -/
theorem lowHalf_eq_and (d : Word) : (d.extractLsb' 0 16).setWidth 32 = d &&& 0x0000FFFF#32 := by
  apply BitVec.eq_of_toNat_eq
  have hmask : d.toNat &&& 65535 = d.toNat % 65536 := Nat.and_two_pow_sub_one_eq_mod d.toNat 16
  simp only [BitVec.toNat_setWidth, BitVec.extractLsb'_toNat, BitVec.toNat_and, BitVec.toNat_ofNat, Nat.shiftRight_zero,
    Nat.reducePow, Nat.reduceMod, hmask]
  omega

/-- The flags of STATUS are its bits 0 to 4 (10_state.md R23). -/
theorem statusWord_flags (s : State) (o : BitVec 4) :
    (statusWord s o).getLsbD 0 = s.busy ∧ (statusWord s o).getLsbD 1 = s.done ∧ (statusWord s o).getLsbD 2 = s.errOp ∧
      (statusWord s o).getLsbD 3 = s.errBusy ∧ (statusWord s o).getLsbD 4 = s.errFamily := by
  simp [statusWord, flagBit]

/-- STATUS above its flags: OUTCOME at bits 8 to 11, and 0 elsewhere (10_state.md R23). -/
theorem getLsbD_statusWord_of_ge (s : State) (o : BitVec 4) {i : Nat} (h5 : 5 ≤ i) (hi : i < 32) :
    (statusWord s o).getLsbD i = (decide (8 ≤ i) && o.getLsbD (i - 8)) := by
  have hflag : ∀ (b : Bool) (k : Nat), k < 5 → (flagBit b k).getLsbD i = false := fun b k hk => by
    simp [flagBit, show i - k ≠ 0 by omega]
  simp only [statusWord, BitVec.getLsbD_or, hflag _ 0 (by omega), hflag _ 1 (by omega), hflag _ 2 (by omega),
    hflag _ 3 (by omega), hflag _ 4 (by omega), BitVec.getLsbD_shiftLeft, BitVec.getLsbD_setWidth]
  simp only [hi, show i - 8 < 32 by omega, decide_true, Bool.true_and, Bool.false_or, ← decide_not, Nat.not_lt]

/-- The fields of STATUS above its flags: OUTCOME and the reserved bits around it (10_state.md R23). -/
theorem statusWord_fields_above_flags (s : State) (o : BitVec 4) :
    (statusWord s o).extractLsb' 5 3 = 0 ∧ (statusWord s o).extractLsb' 8 4 = o ∧ (statusWord s o).extractLsb' 12 20 = 0 := by
  refine ⟨?_, ?_, ?_⟩ <;> ext i hi <;> rw [BitVec.getElem_extractLsb', getLsbD_statusWord_of_ge s o (by omega) (by omega)]
  · simp [show ¬ 8 ≤ 5 + i by omega]
  · simp [BitVec.getLsbD_eq_getElem hi]
  · simp [BitVec.getLsbD_of_ge o (12 + i - 8) (by omega)]

/-! ## Byte windows -/

/-- Byte 4k+j of a window is byte j of word k. -/
theorem windowIndex (k : Nat) (j : Fin 4) : (4 * k + j.val) / 4 = k ∧ (4 * k + j.val) % 4 = j.val := by omega

/-- A byte of the input window (20_memory.md R62). -/
theorem getElem_inWindow (ws : Vector Word 5) (k : Fin 5) (j : Fin 4) :
    (inWindow ws)[4 * k.val + j.val] = wordByte ws[k] j.val := by
  simp [inWindow, windowIndex k.val j]

/-- A byte of the peer address window (20_memory.md R62). -/
theorem getElem_addrWindow (ws : Vector Word 4) (k : Fin 4) (j : Fin 4) :
    (addrWindow ws)[4 * k.val + j.val] = wordByte ws[k] j.val := by
  simp [addrWindow, windowIndex k.val j]

/-- The bytes of DEC_U32's value are the four bytes decoded, the first on top (40_codec.md R132). -/
theorem wordByte_dec32 (a b c d : Byte) : wordByte (dec32 [a, b, c, d]) 0 = a ∧ wordByte (dec32 [a, b, c, d]) 1 = b ∧
    wordByte (dec32 [a, b, c, d]) 2 = c ∧ wordByte (dec32 [a, b, c, d]) 3 = d := by
  simpa [beBytes, dec32, wordByte] using beBytes_beValue (w := 32) [a, b, c, d] (by simp)

/-- A byte of a word of the output window (20_memory.md R62). -/
theorem wordByte_outWord (out : Vector Byte 48) (k : Fin 12) (j : Fin 4) :
    wordByte (outWord out k) j.val = out[4 * k.val + j.val] := by
  obtain ⟨h0, h1, h2, h3⟩ := wordByte_dec32 out[4 * k.val] out[4 * k.val + 1] out[4 * k.val + 2] out[4 * k.val + 3]
  match j with
  | 0 => exact h0
  | 1 => exact h1
  | 2 => exact h2
  | 3 => exact h3

/-! ## Writes and the latch -/

/-- An accepted START latches (20_memory.md R71). -/
theorem ctrlWrite_of_startAccepted {v : Word} {s : State} (h : StartAccepted v s) : ctrlWrite v s = acceptStart v s := by
  obtain ⟨h0, h1, hop, hi, hf⟩ := h
  obtain ⟨a, -⟩ | ⟨-, a, -⟩ | ⟨-, -, a, -⟩ | ⟨-, -, -, a, -⟩ | ⟨-, -, -, -, a, -⟩ | ⟨-, -, -, -, -, he⟩ :=
    ctrlWrite_cases v s
  · exact absurd (a.symm.trans h1) (by decide)
  · exact absurd (a.symm.trans h0) (by decide)
  · exact absurd (a.symm.trans hi) (by decide)
  · exact absurd hop a
  · exact absurd hf a
  · exact he

/-- A CTRL write while BUSY, short of SOFT_RESET, is quiet: its START is refused (44_host_commands.md R275). -/
theorem quiet_ctrlWrite_of_busy {v : Word} {s : State} (hb : s.eng = .busy) (hv : v.getLsbD 1 = false) :
    Quiet s (ctrlWrite v s) := by
  obtain ⟨hr, -⟩ | ⟨⟨-, -, -, hi, -⟩, -⟩ | hq := ctrlWrite_kinds v s
  · exact absurd (hr.symm.trans hv) (by decide)
  · exact absurd (hb.symm.trans hi) (by decide)
  · exact hq

/-! ## Where an access goes -/

theorem platformStep_read_of_route {p : Platform} {addr k off : Nat} (h : route p addr = some (k, off)) (n : Nat) :
    platformStep (.read addr n) p = performAt k (.read off n) p := by
  simp only [platformStep, h]

theorem platformStep_write_of_route {p : Platform} {addr k off : Nat} (h : route p addr = some (k, off)) (n : Nat) (v : Word) :
    platformStep (.write addr n v) p = performAt k (.write off n v) p := by
  simp only [platformStep, h]

/-- An address in an instance's block is routed to that instance (20_memory.md R60). -/
theorem route_of_base {p : Platform} {k base off : Nat} (hwf : platformWf p = true) (hb : p.bases[k]? = some base)
    (ho : off < 0x100) : route p (base + off) = some (k, off) := by
  obtain ⟨-, -, hd, -, -⟩ := platformWf_iff.mp hwf
  simpa [route] using routeFrom_eq hd hb ho 0

/-- An instance's turn leaves the others (20_memory.md R77). -/
theorem stepEngine_others {j k : Nat} {p q : Platform} (hjk : j ≠ k) (h : stepEngine k p = .next q) :
    q.engines[j]? = p.engines[j]? := by
  obtain ⟨-, rfl⟩ | ⟨s, t, -, -, rfl⟩ := stepEngine_cases h
  · rfl
  · exact List.getElem?_set_ne hjk.symm

/-- An access to an instance leaves the others (20_memory.md R77). -/
theorem performAt_others {j k : Nat} {e : Event} {p q : Platform} (hjk : j ≠ k) (h : performAt k e p = .next q) :
    q.engines[j]? = p.engines[j]? := by
  obtain ⟨-, rfl⟩ | ⟨s, t, -, -, rfl⟩ := performAt_cases h
  · rfl
  · exact List.getElem?_set_ne hjk.symm

/-- An event put before an instance is its turn with that event next. -/
theorem performAt_eq_stepEngine {k : Nat} {e : Event} {p : Platform} {s : State} (hs : p.engines[k]? = some s) :
    performAt k e p = stepEngine k { p with engines := p.engines.set k { s with events := e :: s.events } } := by
  simp only [performAt, hs]

/-- Where the instance's step answers, only its state is replaced. -/
theorem performAt_of_next {k : Nat} {e : Event} {p : Platform} {s t : State} (hs : p.engines[k]? = some s)
    (ht : step { s with events := e :: s.events } = .next t) :
    performAt k e p = .next { p with engines := p.engines.set k t } := by
  have hk := (List.getElem?_eq_some_iff.mp hs).1
  rw [performAt_eq_stepEngine hs]
  simp [stepEngine, hk, ht]

/-- Where the instance's step is refused, so is the platform's event. -/
theorem performAt_of_refused {k : Nat} {e : Event} {p : Platform} {s : State} {r : Refusal} (hs : p.engines[k]? = some s)
    (hr : step { s with events := e :: s.events } = .refused r) : performAt k e p = .refused r := by
  have hk := (List.getElem?_eq_some_iff.mp hs).1
  rw [performAt_eq_stepEngine hs]
  simp [stepEngine, hk, hr]

end Sys2Proof.Machine
end

section
/-! The obligations of 20_memory.md. -/

namespace Sys2Proof.Machine

/-- Settles O11: each result register draws, and its word is the draw cut to the register's drawn bits. -/
theorem busyReadDrawsFreely : Obligations.BusyReadDrawsFreely := by
  intro s hb d
  have hbusy : s.busy = true := busy_eq_true.mpr hb
  refine ⟨fun k => ?_, ?_, ?_⟩
  · rw [exec_hostRd_drawn (regAt_outBuf k) hb rfl]
    simp only [readReg, hbusy, if_true]
    rfl
  · rw [exec_hostRd_drawn (r := .outLen) (by decide) hb rfl, ← lowHalf_eq_and]
    simp only [readReg, hbusy, if_true]
    rfl
  · refine ⟨_, exec_hostRd_drawn (r := .status) (by decide) hb rfl, rfl, ?_⟩
    obtain ⟨h0, h1, h2, h3, h4⟩ := statusWord_flags s (d.extractLsb' 0 4)
    have hword : readReg s .status = statusWord s (d.extractLsb' 0 4) := by simp only [readReg, hbusy, if_true]; rfl
    rw [hword]
    exact ⟨h0.trans hbusy, h1, h2, h3, h4, statusWord_fields_above_flags s _⟩

/-- Settles O15: the windows' bytes are `wordByte`s of their words, and the output window's words decode their four bytes. -/
theorem windowsPackBigEndian : Obligations.WindowsPackBigEndian :=
  ⟨getElem_inWindow, getElem_addrWindow, wordByte_outWord⟩

/-- Settles O24: START copies the inputs; while BUSY a CTRL write, a STATUS write and a data write all spare the latch and BUSY. -/
theorem latchSeesOnlyEarlierWrites : Obligations.LatchSeesOnlyEarlierWrites := by
  refine ⟨fun s v h1 h0 hop hi hf => ?_, fun s off v rest he h4 hl hb hv => ?_⟩
  · have hacc : exec (.cmdProcess v) s = .next (acceptStart v s) :=
      (exec_ctrlRow .process v s).trans (congrArg _ (ctrlWrite_of_startAccepted ⟨h0, h1, hop, hi, hf⟩))
    exact ⟨_, hacc, rfl, rfl, rfl, rfl, rfl, rfl⟩
  · refine ⟨_, step_write he h4 hl, ?_⟩
    split
    · next hctrl =>
      have hq := quiet_ctrlWrite_of_busy (s := { s with events := rest }) hb (hv hctrl)
      exact ⟨hq.eng.trans hb, hq.latch⟩
    · split
      · exact ⟨hb, sameLatch_refl s⟩
      · have hq := quiet_writeReg (regAt (wordIndex off)) v { s with events := rest }
        exact ⟨hq.eng.trans hb, hq.latch⟩

/-- Settles O54: an access and a turn replace at most the state of the instance they reach. -/
theorem instancesDoNotInteract : Obligations.InstancesDoNotInteract := by
  intro p q j
  refine ⟨fun addr n k off hroute hjk h => ?_, fun addr n v k off hroute hjk h => ?_, fun k hjk h => stepEngine_others hjk h⟩
  · exact performAt_others hjk (platformStep_read_of_route hroute n ▸ h)
  · exact performAt_others hjk (platformStep_write_of_route hroute n v ▸ h)

/-- Settles O55: blocks do not overlap, so the address is routed to its instance, which performs the access at once. -/
theorem accessReachesItsInstance : Obligations.AccessReachesItsInstance := by
  intro p k base off n v s hwf hb ho hs
  have hroute := route_of_base hwf hb ho
  rw [platformStep_read_of_route hroute, platformStep_write_of_route hroute]
  exact ⟨fun t => performAt_of_next hs, fun r => performAt_of_refused hs, fun t => performAt_of_next hs,
    fun r => performAt_of_refused hs⟩

/-- Settles O1: `step` decodes every event but RST. -/
theorem stepRunsDecodedEvent : Obligations.StepRunsDecodedEvent :=
  fun _ _ _ _ he hr hd => step_decoded he hr hd

/-- Settles O3: such an access is not defined, so it decodes to no instruction. -/
theorem undefinedAccessIsRefused : Obligations.UndefinedAccessIsRefused := by
  intro s off n v rest h
  have hundef := accessDefined_eq_false h
  exact ⟨fun he => step_rejected he (by simp) (by simp [decode, hundef]),
    fun he => step_rejected he (by simp) (by simp [decode, hundef])⟩

/-- Settles O12: a read touches the model's own fields alone. -/
theorem readHasNoSideEffect : Obligations.ReadHasNoSideEffect :=
  fun s idx => ⟨hostRead (regAt idx) s, rfl, hostRead_hw (regAt idx) s⟩

end Sys2Proof.Machine
end

section
/-! SUPPORT. What each decoder reads, said once in the terms of `selects`, and the two directions between an instruction and the event
that presents it (30_encoding.md R108, R110, R112, R113, R116). -/

namespace Sys2Proof.Machine

/-! ## Rows as conditions -/

/-- A row whose mask is all ones is matched by its own word alone. -/
theorem rowMatches_full {n : Nat} {p m x : BitVec n} (hm : m = BitVec.allOnes n) : rowMatches p m x = true ↔ x = p := by
  simp [rowMatches, hm]

/-- R108 test 1, as ranges of L_LEN. -/
theorem decodeLength_eq (len : Word) : decodeLength len =
    if len.toNat ≤ 15 then .rxShort0to15 else if 16 ≤ len.toNat ∧ len.toNat ≤ 19 then .rxShort16to19 else .rxFullHeader := by
  simp only [decodeLength, length_rows]

/-- R108 test 2. -/
theorem decodeType_eq (ty : Half) : decodeType ty = if ty = 0x0001#16 then .rxBindingRequest else .rxOtherType := by
  simp only [decodeType, rowMatches_full (m := 0xFFFF#16) rfl]

/-- R108 test 3. -/
theorem decodeCookie_eq (c : Word) : decodeCookie c = if c = 0x2112A442#32 then .rxCookieOk else .rxCookieBad := by
  simp only [decodeCookie, rowMatches_full (m := 0xFFFFFFFF#32) rfl]

/-- R112's table, top row first. -/
theorem decodeDsel_eq (d : BitVec 11) : decodeDsel d =
    if d.getLsbD 10 = true then .ok .buildError
    else if d.extractLsb' 8 3 = 0b001#3 then .ok .buildError420Type
    else if d.extractLsb' 8 3 = 0b010#3 then .ok .buildError420Cookie
    else if d = 0x001#11 then .ok .buildSuccessV4
    else if d = 0x002#11 then .ok .buildSuccessV6
    else .error (.selectorNeverOccurs d) := by
  simp only [decodeDsel, dsel_rows, rowMatches_full (m := 0x7FF#11) rfl]

/-- DSEL[10] is the top bit of DSEL[10:8]. -/
theorem dsel_getLsbD_10 {d : BitVec 11} {c : BitVec 3} (h : d.extractLsb' 8 3 = c) : d.getLsbD 10 = c.getLsbD 2 := by
  simp [← h]

/-! ## From an instruction to its event and back -/

/-- A write to a register's offset is the write of its index. -/
theorem decode_write_byteOffset (w : View) (idx : BitVec 6) (v : Word) :
    decode w (.write (byteOffset idx) 4 v) = .ok (decodeWrite w idx v) := by
  obtain ⟨hdef, hidx⟩ := byteOffset_defined idx
  simp only [decode, hdef, hidx, if_true]

theorem decodeWrite_data (w : View) {idx : BitVec 6} (v : Word) (h : isDataIndex idx = true) :
    decodeWrite w idx v = .hostWr idx v := by
  obtain ⟨hctrl, hstatus⟩ := isDataIndex_not_command idx h
  simp only [decodeWrite, hctrl, hstatus, h, if_true, if_false]

theorem decodeWrite_ignored (w : View) {idx : BitVec 6} (v : Word) (hd : isDataIndex idx = false)
    (hc : isCommandIndex idx = false) :
    decodeWrite w idx v = .hostWrIgnored idx v := by
  obtain ⟨hctrl, hstatus⟩ : idx ≠ 1#6 ∧ idx ≠ 2#6 := by simpa [isCommandIndex] using hc
  simp only [decodeWrite, hctrl, hstatus, hd, if_false, Bool.false_eq_true]

theorem encode_ctrlRow (row : CtrlRow) (v : Word) : encode (row.instr v) = .wr 0x004 v := by cases row <;> rfl

theorem decode_encode_ctrlRow (w : View) (row : CtrlRow) (v : Word) (hwf : (row.instr v).wf = true)
    (hs : selects w (row.instr v)) : decode w (encode (row.instr v)) = .ok (row.instr v) := by
  have hwrite : decode w (.wr 0x004 v) = .ok ((ctrlRow v w.busy w.peerFamily).instr v) := decode_write_byteOffset w 1#6 v
  rw [encode_ctrlRow, hwrite, ctrlRow_of_selects w v row hwf hs]

/-- The formats differ in what they read: a bus access its index, a CTRL write the first matching row, the tests and the dispatch a
register of `w`; the other events name their row outright. -/
theorem decode_encode (w : View) (i : Instr) (hwf : i.wf = true) (hs : selects w i) : decode w (encode i) = .ok i := by
  cases i
  case hostRd idx =>
    obtain ⟨hdef, hidx⟩ := byteOffset_defined idx
    simp only [encode, decode, hdef, hidx, if_true]
  case hostWr idx v => exact (decode_write_byteOffset w idx v).trans (congrArg _ (decodeWrite_data w v hwf))
  case hostWrIgnored idx v =>
    obtain ⟨hd, hc⟩ : isDataIndex idx = false ∧ isCommandIndex idx = false := by
      simpa only [Instr.wf, Bool.and_eq_true, Bool.not_eq_true'] using hwf
    exact (decode_write_byteOffset w idx v).trans (congrArg _ (decodeWrite_ignored w v hd hc))
  case cmdSoftReset v => exact decode_encode_ctrlRow w .softReset v hwf hs
  case startBusy v => exact decode_encode_ctrlRow w .startBusy v hwf hs
  case startReservedOp v => exact decode_encode_ctrlRow w .startReservedOp v hwf hs
  case startBadFamily v => exact decode_encode_ctrlRow w .startBadFamily v hwf hs
  case cmdProcess v => exact decode_encode_ctrlRow w .process v hwf hs
  case ctrlConfig v => exact decode_encode_ctrlRow w .config v hwf hs
  case statusW1c v => exact decode_write_byteOffset w 2#6 v
  case rxShort0to15 => exact congrArg _ ((decodeLength_eq w.lLen).trans (if_pos hs))
  case rxShort16to19 =>
    have h16 : ¬ w.lLen.toNat ≤ 15 := Nat.not_le.mpr hs.1
    exact congrArg _ ((decodeLength_eq w.lLen).trans ((if_neg h16).trans (if_pos hs)))
  case rxFullHeader =>
    have h20 : 20 ≤ w.lLen.toNat := hs
    simp only [encode, decode, decodeLength_eq]
    rw [if_neg (by omega), if_neg (by omega)]
  case rxBindingRequest | rxOtherType =>
    simp only [selects] at hs
    simp only [encode, decode, decodeType_eq, hs, if_true, if_false]
  case rxCookieOk | rxCookieBad =>
    simp only [selects] at hs
    simp only [encode, decode, decodeCookie_eq, hs, if_true, if_false]
  case buildError =>
    simp only [selects] at hs
    simp only [encode, decode, decodeDsel_eq, hs, if_true]
  case buildError420Type | buildError420Cookie =>
    simp only [selects] at hs
    simp only [encode, decode, decodeDsel_eq, dsel_getLsbD_10 hs, hs]
    rfl
  case buildSuccessV4 | buildSuccessV6 =>
    simp only [selects] at hs
    rw [encode, decode, hs]
    rfl
  case encErrorCode | encErrorBody => exact if_pos hwf
  all_goals rfl

/-! ## From an event to its instruction and back -/

/-- The instruction is well formed, the registers select it, and the event is the one that presents it. -/
def Presents (w : View) (e : Event) (i : Instr) : Prop := i.wf = true ∧ selects w i ∧ encode i = e

theorem presents_decodeLength (w : View) : Presents w .lengthTest (decodeLength w.lLen) := by
  rw [decodeLength_eq]
  split
  · exact ⟨rfl, ‹_›, rfl⟩
  · split
    · exact ⟨rfl, ‹_›, rfl⟩
    · exact ⟨rfl, show 20 ≤ w.lLen.toNat by omega, rfl⟩

theorem presents_decodeType (w : View) : Presents w .typeTest (decodeType w.hType) := by
  rw [decodeType_eq]
  split <;> exact ⟨rfl, ‹_›, rfl⟩

theorem presents_decodeCookie (w : View) : Presents w .cookieTest (decodeCookie w.hCookie) := by
  rw [decodeCookie_eq]
  split <;> exact ⟨rfl, ‹_›, rfl⟩

theorem presents_of_decodeDsel {w : View} {i : Instr} (h : decodeDsel w.dsel = .ok i) : Presents w .builder i := by
  rw [decodeDsel_eq] at h
  repeat' split at h
  all_goals cases h
  all_goals exact ⟨rfl, ‹_›, rfl⟩

theorem presents_of_decodeCodec {w : View} {sel : BitVec 6} {arg : Datum} {i : Instr} (h : decodeCodec sel arg = .ok i) :
    Presents w (.codec sel arg) i := by
  unfold decodeCodec at h
  repeat' split at h
  all_goals cases h
  all_goals subst sel; exact ⟨rfl, trivial, rfl⟩

theorem presents_of_decodeUnit {w : View} {op : UnitOp} {args : List Datum} {i : Instr} (h : decodeUnit op args = .ok i) :
    Presents w (.unit op args) i := by
  unfold decodeUnit at h
  split at h
  case h_13 | h_15 => -- ENC_ERROR_CODE and ENC_ERROR_BODY, whose code is tested (R199)
    split at h
    · cases h
      exact ⟨‹_›, trivial, rfl⟩
    · cases h
  all_goals cases h
  all_goals exact ⟨rfl, trivial, rfl⟩

/-- A defined access is the access to its index's offset. -/
theorem byteOffset_wordIndex {off n : Nat} (h : accessDefined off n = true) : byteOffset (wordIndex off) = off ∧ n = 4 := by
  obtain ⟨rfl, h4, hl⟩ := accessDefined_iff.mp h
  refine ⟨?_, rfl⟩
  simp only [byteOffset, wordIndex, BitVec.toNat_ofNat]
  omega

/-- The value of a CTRL write is an operand of its first matching row, whose state condition holds (R110). -/
theorem presents_ctrlRow (w : View) (v : Word) : Presents w (.wr 0x004 v) ((ctrlRow v w.busy w.peerFamily).instr v) := by
  obtain ⟨m2, m0, m1, m11⟩ := ctrlMasks v
  obtain ⟨h1, hr⟩ | ⟨h1, h0, hr⟩ | ⟨h1, h0, hb, hr⟩ | ⟨h1, h0, hb, hop, hr⟩ | ⟨h1, h0, hb, hop, hf, hr⟩ |
    ⟨h1, h0, hb, hop, hf, hr⟩ := ctrlRow_cases v w.busy w.peerFamily <;> rw [hr]
  · exact ⟨m2.trans h1, trivial, rfl⟩
  · exact ⟨m0.trans (by rw [h1, h0]; rfl), trivial, rfl⟩
  · exact ⟨m1.trans (by rw [h1, h0]; rfl), hb, rfl⟩
  · exact ⟨Bool.and_eq_true_iff.mpr ⟨m1.trans (by rw [h1, h0]; rfl), bne_iff_ne.mpr hop⟩, hb, rfl⟩
  · exact ⟨m11.trans (by rw [h1, h0, hop]; rfl), ⟨hb, not_or.mp hf⟩, rfl⟩
  · exact ⟨m11.trans (by rw [h1, h0, hop]; rfl), ⟨hb, hf⟩, rfl⟩

theorem presents_decodeWrite (w : View) (idx : BitVec 6) (v : Word) :
    Presents w (.write (byteOffset idx) 4 v) (decodeWrite w idx v) := by
  unfold decodeWrite
  split
  · next h => subst h; exact presents_ctrlRow w v
  · split
    · next h => subst h; exact ⟨rfl, trivial, rfl⟩
    · split
      · exact ⟨‹_›, trivial, rfl⟩
      · next hctrl hstatus hdata =>
        have hcommand : isCommandIndex idx = false := by simp [hctrl, hstatus]
        exact ⟨by rw [Instr.wf, Bool.eq_false_iff.mpr hdata, hcommand]; rfl, trivial, rfl⟩

theorem presents_of_decode {w : View} {e : Event} {i : Instr} (h : decode w e = .ok i) : Presents w e i := by
  cases e
  case read off n =>
    simp only [decode] at h
    split at h
    · next hdef =>
      cases h
      obtain ⟨hoff, rfl⟩ := byteOffset_wordIndex hdef
      exact ⟨rfl, trivial, by rw [encode, hoff]⟩
    · cases h
  case write off n v =>
    simp only [decode] at h
    split at h
    · next hdef =>
      cases h
      obtain ⟨hoff, rfl⟩ := byteOffset_wordIndex hdef
      simpa only [hoff] using presents_decodeWrite w (wordIndex off) v
    · cases h
  case rst => cases h
  case engineStep => cases h; exact ⟨rfl, trivial, rfl⟩
  case lengthTest => cases h; exact presents_decodeLength w
  case typeTest => cases h; exact presents_decodeType w
  case cookieTest => cases h; exact presents_decodeCookie w
  case builder => exact presents_of_decodeDsel h
  case codec => exact presents_of_decodeCodec h
  case unit => exact presents_of_decodeUnit h
  case wireType | wireAttr | wireFamily | wireError =>
    simp only [decode, decodeWireType, decodeWireAttr, decodeWireFamily, decodeWireError, rowMatches_full (m := 0xFFFF#16) rfl,
      rowMatches_full (m := 0xFF#8) rfl, rowMatches_full (m := 0xFFFFFFFF#32) rfl] at h
    repeat' split at h
    all_goals cases h
    all_goals subst_vars; exact ⟨rfl, trivial, rfl⟩

/-! ## DSEL and PROCESS -/

/-- DSEL of a short frame is the 400 path's, whatever VOUT and the family (R112). -/
theorem decode_builder_of_short {s : State} (hl : s.lLen.toNat < 20) : decode s.view .builder = .ok .buildError := by
  have hshort : shortFrame s.lLen = true := shortFrame_eq_true.mpr hl
  have hbit : (dselWord s).getLsbD 10 = true := by
    simp only [dselWord, hshort, BitVec.getLsbD_append]
    rfl
  exact (decodeDsel_eq (dselWord s)).trans (if_pos hbit)

theorem process_of_short {s : State} (hl : s.lLen.toNat < 20) : process s = .next (buildError s) :=
  if_pos (shortFrame_eq_true.mpr hl)

theorem buildSuccess_of_v4 {t : State} (h : t.lFamily = 0x01) : buildSuccess t = .next (buildSuccessV4 t) := if_pos h

theorem buildSuccess_of_v6 {t : State} (h : t.lFamily = 0x02) : buildSuccess t = .next (buildSuccessV6 t) :=
  (if_neg (by rw [h]; decide)).trans (if_pos h)

/-- With a full header and a legal family, DSEL after validation picks the builder that PROCESS runs on that state, whichever of the
three ways VALIDATE answered (R112, R243 to R245). -/
theorem process_eq_exec_dsel {s t : State} (hl : 20 ≤ s.lLen.toNat) (hf : s.lFamily = 0x01 ∨ s.lFamily = 0x02)
    (ht : validate (decodeHeader s) = t) : ∃ i, decode t.view .builder = .ok i ∧ process s = exec i t := by
  have hfull : shortFrame s.lLen = false := shortFrame_eq_false.mpr hl
  obtain ⟨hlen, hfam⟩ : t.lLen = s.lLen ∧ t.lFamily = s.lFamily := by rw [← ht, validate_frame]; exact ⟨rfl, rfl⟩
  have hdsel : decode t.view .builder = decodeDsel (BitVec.ofBool false ++ voutCode t.vout ++ s.lFamily) := by
    rw [← hfull, ← hlen, ← hfam]; rfl
  unfold process
  simp only [hfull, ht, hdsel]
  cases t.vout
  case valid =>
    obtain h | h := hf
    · exact ⟨.buildSuccessV4, by rw [h]; rfl, buildSuccess_of_v4 (hfam.trans h)⟩
    · exact ⟨.buildSuccessV6, by rw [h]; rfl, buildSuccess_of_v6 (hfam.trans h)⟩
  case invalidType => exact ⟨.buildError420Type, by obtain h | h := hf <;> rw [h] <;> rfl, rfl⟩
  case invalidCookie => exact ⟨.buildError420Cookie, by obtain h | h := hf <;> rw [h] <;> rfl, rfl⟩

end Sys2Proof.Machine
end

section
/-! The obligations of 30_encoding.md. -/

namespace Sys2Proof.Machine

/-- Settles O4: per format, the event an instruction is encoded by names its row, or reads the register that selects it. -/
theorem decodeOfEncodeIsIdentity : Obligations.DecodeOfEncodeIsIdentity := decode_encode

/-- Settles O5: every sub-decoder answers an instruction that its event presents. -/
theorem decodedIsSelectedAndEncodesBack : Obligations.DecodedIsSelectedAndEncodesBack := fun _ _ _ h => presents_of_decode h

/-- Settles O38: a short frame's DSEL and PROCESS agree at once; a full header's agree after DECODE_HEADER and VALIDATE. -/
theorem dselSelectsTheBuilder : Obligations.DselSelectsTheBuilder := by
  intro s hf
  refine ⟨fun hl => ⟨decode_builder_of_short hl, process_of_short hl⟩, fun hl => ?_⟩
  obtain ⟨i, hdecode, hprocess⟩ := process_eq_exec_dsel hl hf rfl
  exact ⟨decodeHeader s, validate (decodeHeader s), i, rfl, rfl, hdecode, hprocess⟩

/-- Settles O6: each sample event is the encoding of its instruction, which the sample registers select. -/
theorem sampleEncodingsDecode : Obligations.SampleEncodingsDecode := by
  refine ⟨decode_encode _ (.hostRd 43) rfl trivial, decode_encode _ (.hostWr 5 _) rfl trivial,
    decode_encode _ (.hostWrIgnored 6 _) rfl trivial, decode_encode _ (.cmdProcess _) rfl ⟨rfl, .inl rfl⟩,
    decode_encode _ (.cmdSoftReset _) rfl trivial, decode_encode _ (.startBusy _) rfl rfl,
    decode_encode _ (.statusW1c _) rfl trivial, decode_encode _ .rxFullHeader rfl (Nat.le_refl 20),
    decode_encode _ .buildSuccessV4 rfl rfl, decode_encode _ (.decU96 _) rfl trivial, decode_encode _ .errcode420 rfl trivial⟩

/-- Settles O46: each row returns the big-endian bytes of a constant. -/
theorem codePointsOnTheWire : Obligations.CodePointsOnTheWire :=
  fun _ => ⟨rfl, rfl, rfl, rfl, rfl, rfl, rfl, rfl, rfl⟩

end Sys2Proof.Machine
end

section
/-! What the codec does at every width n: the two inverse laws, the decoded value, the encoded bytes one by one, and the two answers
of a decode called directly (40_codec.md R130, R141, R142). -/

namespace Sys2Proof.Machine

/-- Decoding the n bytes of an n-byte word gives the word back. -/
theorem ofNat_beValue_beBytes (n : Nat) (v : BitVec (8 * n)) :
    BitVec.ofNat (8 * n) (beValue ((beBytes n v).take n)) = v := by
  have htake : (beBytes n v).take n = beBytes n v := List.take_of_length_le (beBytes_length n v).le
  rw [htake, beValue_beBytes, Nat.mod_eq_of_lt v.isLt, BitVec.ofNat_toNat, BitVec.setWidth_eq]

/-- An n-byte word holds the value of a sequence's first n bytes uncut. -/
theorem toNat_ofNat_beValue_take {n : Nat} {l : List Byte} (h : n ≤ l.length) :
    (BitVec.ofNat (8 * n) (beValue (l.take n))).toNat = beValue (l.take n) := by
  rw [BitVec.toNat_ofNat, Nat.mod_eq_of_lt (beValue_take_lt n l h)]

/-- R130's bit slices: byte i of n is bits 8(n-1-i)+7 down to 8(n-1-i). -/
theorem beBytes_eq_ofFn {w : Nat} (n : Nat) (v : BitVec w) :
    beBytes n v = List.ofFn fun i : Fin n => v.extractLsb' (8 * (n - 1 - i.val)) 8 := by
  induction n with
  | zero => rfl
  | succ n ih =>
    have hrest (i : Fin n) : n + 1 - 1 - i.succ.val = n - 1 - i.val := by simp only [Fin.val_succ]; omega
    simp only [beBytes, ih, List.ofFn_succ, hrest]
    rfl

/-- A call on a long enough slice returns the value of its first n bytes, in whichever form `mk` the result port shows it. -/
theorem returnDecode_of_le {n : Nat} {l : List Byte} (h : n ≤ l.length) (mk : BitVec (8 * n) → Datum) (s : State) :
    ∃ v, returnDecode n l (mk (BitVec.ofNat (8 * n) (beValue (l.take n)))) s = .next { s with unitOut := mk v } ∧
      v.toNat = beValue (l.take n) :=
  ⟨_, if_neg (Nat.not_lt.mpr h), toNat_ofNat_beValue_take h⟩

theorem returnDecode_of_lt {n : Nat} {l : List Byte} (h : l.length < n) (d : Datum) (s : State) :
    returnDecode n l d s = .fault (.shortSlice n l.length) := if_pos h

/-- An encoder's direct call returns the bit slices of its value. -/
theorem returnUnit_beBytes {w : Nat} (n : Nat) (v : BitVec w) (s : State) :
    (.next (returnUnit (.bytes (beBytes n v)) s) : Result) =
      .next { s with unitOut := .bytes (List.ofFn fun i : Fin n => v.extractLsb' (8 * (n - 1 - i.val)) 8) } := by
  rw [beBytes_eq_ofFn, returnUnit]

end Sys2Proof.Machine
end

section
/-! The obligations of 40_codec.md. -/

namespace Sys2Proof.Machine

/-- Settles O43: each width is a case of the laws for n bytes. -/
theorem codecRoundTrips : Obligations.CodecRoundTrips :=
  ⟨fun v => ⟨enc16_length v, ofNat_beValue_beBytes 2 v⟩, beBytes_beValue_take 2,
    fun v => ⟨enc32_length v, ofNat_beValue_beBytes 4 v⟩, beBytes_beValue_take 4,
    fun v => ⟨enc64_length v, ofNat_beValue_beBytes 8 v⟩, beBytes_beValue_take 8,
    fun v => ⟨enc96_length v, ofNat_beValue_beBytes 12 v⟩, beBytes_beValue_take 12,
    fun v => ⟨enc128_length v, ofNat_beValue_beBytes 16 v⟩, beBytes_beValue_take 16⟩

/-- Settles O44: each decoder is `returnDecode` at its width, which answers by the slice's length. -/
theorem decodersReadFirstBytes : Obligations.DecodersReadFirstBytes :=
  fun s _ => ⟨fun h => returnDecode_of_le h .u16 s, fun h => returnDecode_of_le h .u32 s, fun h => returnDecode_of_le h .u64 s,
    fun h => returnDecode_of_le h .u96 s, fun h => returnDecode_of_le h .u128 s,
    fun h => returnDecode_of_lt h _ s, fun h => returnDecode_of_lt h _ s, fun h => returnDecode_of_lt h _ s,
    fun h => returnDecode_of_lt h _ s, fun h => returnDecode_of_lt h _ s⟩

/-- Settles O45: each encoder returns `beBytes` at its width, which are R130's bit slices. -/
theorem encodersEmitBigEndian : Obligations.EncodersEmitBigEndian :=
  fun s v16 v32 v64 v96 v128 => ⟨returnUnit_beBytes 2 v16 s, returnUnit_beBytes 4 v32 s, returnUnit_beBytes 8 v64 s,
    returnUnit_beBytes 12 v96 s, returnUnit_beBytes 16 v128 s⟩

end Sys2Proof.Machine
end

section
/-! What DECODE_HEADER reads and VALIDATE answers, field by field and arm by arm (41_header_validator.md R160, R163 to R167). -/

namespace Sys2Proof.Machine

/-! ## The decoded fields -/

theorem dec16_lHdr (v : Vector Byte 20) : dec16 v.toList = v[0] ++ v[1] := by
  rw [toList_20]; exact dec16_cons ..

theorem dec16_lHdr_drop_2 (v : Vector Byte 20) : dec16 (v.toList.drop 2) = v[2] ++ v[3] := by
  rw [toList_20]; exact dec16_cons ..

theorem dec32_lHdr_drop_4 (v : Vector Byte 20) : dec32 (v.toList.drop 4) = v[4] ++ v[5] ++ v[6] ++ v[7] := by
  rw [toList_20]; exact dec32_cons ..

theorem dec96_lHdr_drop_8 (v : Vector Byte 20) : dec96 (v.toList.drop 8) =
    v[8] ++ v[9] ++ v[10] ++ v[11] ++ v[12] ++ v[13] ++ v[14] ++ v[15] ++ v[16] ++ v[17] ++ v[18] ++ v[19] := by
  rw [toList_20]; exact dec96_cons ..

/-! ## The arms of VALIDATE -/

theorem validateCookie_of_bad {s : State} (h : s.hCookie ≠ Config.magicCookie) : validateCookie s = setInvalidCookie s := if_pos h

theorem validateCookie_of_ok {s : State} (h : s.hCookie = Config.magicCookie) : validateCookie s = setValid s :=
  if_neg (not_not.mpr h)

theorem validateCookie_vout (s : State) :
    (validateCookie s).vout = if s.hCookie = 0x2112A442 then Vout.valid else .invalidCookie := by
  by_cases h : s.hCookie = 0x2112A442
  · rw [validateCookie_of_ok h, if_pos h, setValid_vout]
  · rw [validateCookie_of_bad h, if_neg h, setInvalidCookie_vout]

/-- The cookie test writes VOUT and QUAD only. -/
theorem validateCookie_frame (s : State) :
    validateCookie s = { s with vout := (validateCookie s).vout, quad := (validateCookie s).quad } := by
  by_cases h : s.hCookie = Config.magicCookie
  · rw [validateCookie_of_ok h]; rfl
  · rw [validateCookie_of_bad h]; rfl

theorem validate_of_otherType {s : State} (h : s.hType ≠ Config.typeBindingRequest) : validate s = setInvalidType s := if_pos h

/-- After a Binding Request's type, VALIDATE is its cookie test (log entry 10). -/
theorem validate_of_bindingRequest {s : State} (h : s.hType = Config.typeBindingRequest) : validate s = validateCookie s :=
  if_neg (not_not.mpr h)

/-! ## The rows where their registers select them -/

theorem exec_rxOtherType {s : State} (h : s.hType ≠ Config.typeBindingRequest) :
    exec .rxOtherType s = .next (setInvalidType s) := congrArg Host.Outcome.next (if_pos h)

theorem exec_rxBindingRequest {s : State} (h : s.hType = Config.typeBindingRequest) :
    exec .rxBindingRequest s = .next (validateCookie s) := congrArg Host.Outcome.next (if_pos h)

theorem exec_rxCookieBad {s : State} (ht : s.hType = Config.typeBindingRequest) (hc : s.hCookie ≠ Config.magicCookie) :
    exec .rxCookieBad s = .next (setInvalidCookie s) := congrArg Host.Outcome.next (if_pos ⟨ht, hc⟩)

theorem exec_rxCookieOk {s : State} (ht : s.hType = Config.typeBindingRequest) (hc : s.hCookie = Config.magicCookie) :
    exec .rxCookieOk s = .next (setValid s) := congrArg Host.Outcome.next (if_pos ⟨ht, hc⟩)

end Sys2Proof.Machine
end

section
/-! The obligations of 41_header_validator.md. -/

namespace Sys2Proof.Machine

/-- Settles O32: each field is its decoder on the header's bytes from its own offset, which concatenates them. -/
theorem decodeHeaderReadsFields : Obligations.DecodeHeaderReadsFields := by
  intro s
  have h : exec .decodeHeader s = .next (decodeHeader s) := rfl
  rw [h, decodeHeader, dec16_lHdr, dec16_lHdr_drop_2, dec32_lHdr_drop_4, dec96_lHdr_drop_8]

/-- Settles O33: the type test picks the first arm or the cookie test, which picks one of the other two. -/
theorem validateTestsTypeThenCookie : Obligations.ValidateTestsTypeThenCookie := by
  intro s
  have hexec {t : State} (h : validate s = t) : exec .validate s = .next t := congrArg Host.Outcome.next h
  exact ⟨fun ht => hexec (validate_of_otherType ht),
    fun ht hc => hexec ((validate_of_bindingRequest ht).trans (validateCookie_of_bad hc)),
    fun ht hc => hexec ((validate_of_bindingRequest ht).trans (validateCookie_of_ok hc))⟩

/-- Settles O34: a row its registers select is the arm of VALIDATE it names, RX_BINDING_REQUEST the whole cookie test. -/
theorem validatorRowsActAsSelected : Obligations.ValidatorRowsActAsSelected := by
  intro s
  refine ⟨exec_rxOtherType, fun ht => ?_, fun ht => ?_, exec_rxCookieBad, exec_rxCookieOk⟩
  · exact (exec_rxBindingRequest ht).trans (congrArg Host.Outcome.next (validate_of_bindingRequest ht).symm)
  · exact ⟨validateCookie s, exec_rxBindingRequest ht, validateCookie_vout s, validateCookie_frame s⟩

end Sys2Proof.Machine
end

section
/-! What the serializers and the builders put on the wire: the XOR encoder byte by byte (42_response_builder.md R190 to R194), the
bodies (R197 to R202), the frames of the five builders (R210 to R218) and their length fields (R221). -/

namespace Sys2Proof.Machine

/-! ## The XOR encoder -/

/-- The low bytes of a word on top of another are the lower word's. -/
theorem beBytes_append_low {m w k n : Nat} (hk : k ≤ n) (hw : w = 8 * n) (x : BitVec m) (y : BitVec w) :
    beBytes k (x ++ y) = beBytes k y := by
  induction k with
  | zero => rfl
  | succ k ih =>
    have hbyte : (x ++ y).extractLsb' (8 * k) 8 = y.extractLsb' (8 * k) 8 := by
      ext i hi
      simp [BitVec.getLsbD_append, show 8 * k + i < w by omega]
    rw [beBytes, beBytes, hbyte, ih (by omega)]

/-- The bytes of a word on top of another are the upper word's bytes, then the lower word's. -/
theorem beBytes_append {m w : Nat} (j n : Nat) (hw : w = 8 * n) (x : BitVec m) (y : BitVec w) :
    beBytes (j + n) (x ++ y) = beBytes j x ++ beBytes n y := by
  induction j with
  | zero => rw [Nat.zero_add, beBytes_append_low le_rfl hw]; rfl
  | succ j ih =>
    have hbyte : (x ++ y).extractLsb' (8 * (j + n)) 8 = x.extractLsb' (8 * j) 8 := by
      ext i hi
      simp [BitVec.getLsbD_append, show ¬ 8 * (j + n) + i < w by omega, show 8 * (j + n) + i - w = 8 * j + i by omega]
    rw [Nat.succ_add, beBytes, beBytes, hbyte, ih, List.cons_append]

theorem xorAddrV6_eq (a : Quad128) (t : TxId) : xorAddrV6 a t = a ^^^ (0x2112A442#32 ++ t) := by rw [xorAddrV6, xorMaskV6_eq]

theorem enc16_xorPort (p : Half) : enc16 (xorPort p) = xorBytes (enc16 p) [0x21, 0x12] := beBytes_xor 2 p _

theorem enc32_xorAddrV4 (a : Word) : enc32 (xorAddrV4 a) = xorBytes (enc32 a) [0x21, 0x12, 0xA4, 0x42] := beBytes_xor 4 a _

/-- R192: the mask's bytes are the cookie's, then the transaction id's. -/
theorem enc128_xorAddrV6 (a : Quad128) (t : TxId) :
    enc128 (xorAddrV6 a t) = xorBytes (enc128 a) ([0x21, 0x12, 0xA4, 0x42] ++ enc96 t) := by
  have hmask : enc128 (0x2112A442#32 ++ t) = [0x21, 0x12, 0xA4, 0x42] ++ enc96 t := beBytes_append 4 12 rfl 0x2112A442#32 t
  rw [xorAddrV6_eq, ← hmask]
  exact beBytes_xor 16 a _

/-! ## The error serializers -/

/-- A serializer's direct call shows the bytes of its layout on the result port, and nothing else changes (log entry 5). -/
theorem next_returnBytes {bytes layout : List Byte} (h : bytes = layout) (s : State) :
    (.next (returnUnit (.bytes bytes) s) : Result) = .next { s with unitOut := .bytes layout } := by rw [h, returnUnit]

/-- R200's count of padding bytes: fewer than four, up to the next multiple of four. -/
theorem padReason_eq (r : List Byte) : ∃ k, k < 4 ∧ (r.length + k) % 4 = 0 ∧ padReason r = r ++ List.replicate k 0 :=
  ⟨(4 - r.length % 4) % 4, by omega, by omega, rfl⟩

theorem returnForCode_of_inRange {c : Nat} (h1 : 300 ≤ c) (h2 : c ≤ 699) (d : Datum) (s : State) :
    returnForCode c d s = .next { s with unitOut := d } := if_pos (by simp [h1, h2])

theorem returnForCode_of_outOfRange {c : Nat} (h : ¬ (300 ≤ c ∧ c ≤ 699)) (d : Datum) (s : State) :
    returnForCode c d s = .refused (.rejected (.operandRange c)) := if_neg (by simpa using h)

/-! ## The frames -/

/-- A builder leaves the layout of its frame in RESP, its outcome in RESP_OUTCOME, and nothing else changes (R222). -/
theorem next_respond {frame layout : List Byte} (h : frame = layout) (o : BitVec 4) (s : State) :
    (.next (respond frame o s) : Result) = .next { s with resp := layout, respOutcome := o } := by rw [h, respond]

theorem errorFrame_eq_wire400 : errorFrame 400 Config.badRequest 0#96 = wire400 := by decide

theorem unknownFrame_eq_wire420 (q : Quad) (t : TxId) :
    unknownFrame q t = wire420 (enc96 t) (enc16 q.q0 ++ enc16 q.q1 ++ enc16 q.q2 ++ enc16 q.q3) := by
  rw [unknownFrame, frameOf_attrOf, encUnknownBody_length]
  simp only [encUnknownBody, wire420, List.append_assoc]
  rfl

theorem successFrameV4_eq_wireV4 (p : Half) (a : Word) (t : TxId) :
    successFrameV4 p a t = wireV4 (enc96 t) (enc16 p) (enc32 a) := by
  rw [successFrameV4, frameOf_attrOf, encAddrBodyV4_length, encAddrBodyV4, enc16_xorPort, enc32_xorAddrV4]
  simp only [wireV4, List.append_assoc]
  rfl

theorem successFrameV6_eq_wireV6 (p : Half) (a : Quad128) (t : TxId) :
    successFrameV6 p a t = wireV6 (enc96 t) (enc16 p) (enc128 a) := by
  rw [successFrameV6, frameOf_attrOf, encAddrBodyV6_length, encAddrBodyV6, enc16_xorPort, enc128_xorAddrV6]
  simp only [wireV6, List.append_assoc]
  rfl

/-- The bytes of the IPv4 address R211 decodes are the first four of L_ADDR. -/
theorem enc32_dec32_lAddr (v : Vector Byte 16) : enc32 (dec32 v.toList) = v.toList.take 4 :=
  beBytes_beValue_take 4 v.toList (by simp)

/-- The bytes of the IPv6 address R212 decodes are L_ADDR. -/
theorem enc128_dec128_lAddr (v : Vector Byte 16) : enc128 (dec128 v.toList) = v.toList :=
  (beBytes_beValue_take 16 v.toList (by simp)).trans (List.take_of_length_le (by simp))

/-! ## The branch of the family -/

theorem buildSuccess_of_other {s : State} (h4 : s.lFamily ≠ 0x01) (h6 : s.lFamily ≠ 0x02) :
    buildSuccess s = .refused (.peerFamilyIllegal s.lFamily) := (if_neg h4).trans (if_neg h6)

/-! ## The length fields -/

/-- R221's invariant, read off the bytes of a frame: the attribute length counts what follows the attribute's header, the message
length what follows the frame's. -/
def LengthsDerived (f : List Byte) : Prop :=
  24 ≤ f.length ∧ beValue ((f.drop 22).take 2) = f.length - 24 ∧
    beValue ((f.drop 2).take 2) = 4 + beValue ((f.drop 22).take 2) ∧ beValue ((f.drop 2).take 2) = f.length - 20

/-- A 16-bit length field, where the length fits it, holds the length. -/
theorem beValue_enc16_ofNat {n : Nat} (h : n < 2 ^ 16) : beValue (enc16 (BitVec.ofNat 16 n)) = n := by
  rw [enc16, beValue_beBytes, BitVec.toNat_ofNat, Nat.mod_eq_of_lt h, Nat.mod_eq_of_lt h]

/-- Every frame of one attribute meets R221, whatever its body, up to what a 16-bit field can count. -/
theorem lengthsDerived_frameOf_attrOf (ty aty : Half) (t : TxId) {body : List Byte} (h : 4 + body.length < 2 ^ 16) :
    LengthsDerived (frameOf ty t (attrOf aty body)) := by
  have hmlen : ((frameOf ty t (attrOf aty body)).drop 2).take 2 = enc16 (BitVec.ofNat 16 (4 + body.length)) := by
    rw [frameOf_attrOf]; rfl
  have halen : ((frameOf ty t (attrOf aty body)).drop 22).take 2 = enc16 (BitVec.ofNat 16 body.length) := by
    rw [frameOf_attrOf]; rfl
  have hlen : (frameOf ty t (attrOf aty body)).length = 24 + body.length := by
    rw [frameOf_length, attrOf_length]; omega
  rw [LengthsDerived, hmlen, halen, hlen, beValue_enc16_ofNat h, beValue_enc16_ofNat (by omega)]
  omega

/-- What PROCESS leaves in RESP is a frame of one attribute, so its length fields are derived. -/
theorem process_lengthsDerived {s t : State} (h : process s = .next t) : LengthsDerived t.resp := by
  obtain ⟨-, rfl⟩ | ⟨-, -, rfl⟩ | ⟨-, -, -, rfl⟩ | ⟨-, -, -, ⟨-, rfl⟩ | ⟨-, rfl⟩⟩ := process_cases h
  case inl => exact lengthsDerived_frameOf_attrOf _ _ _ (body := encErrorBody 400 Config.badRequest) (by decide)
  case inr.inl | inr.inr.inl => exact lengthsDerived_frameOf_attrOf _ _ _ (by rw [encUnknownBody_length]; decide)
  case inr.inr.inr.inl => exact lengthsDerived_frameOf_attrOf _ _ _ (by rw [encAddrBodyV4_length]; decide)
  case inr.inr.inr.inr => exact lengthsDerived_frameOf_attrOf _ _ _ (by rw [encAddrBodyV6_length]; decide)

end Sys2Proof.Machine
end

section
/-! The obligations of 42_response_builder.md. -/

namespace Sys2Proof.Machine

/-- Settles O29: PROCESS completes on a legal family, and answers a frame whose length fields were counted from its bytes. -/
theorem lengthFieldsAreDerived : Obligations.LengthFieldsAreDerived := by
  intro s hf
  obtain ⟨t, ht⟩ := process_completes hf
  exact ⟨t, ht, process_lengthsDerived ht⟩

/-- Settles O36: each builder is `respond` with a frame that is the wire layout on the bytes of its operands. -/
theorem buildersEmitWireLayouts : Obligations.BuildersEmitWireLayouts := by
  intro s
  refine ⟨next_respond errorFrame_eq_wire400 _ s, next_respond (unknownFrame_eq_wire420 ..) _ s,
    next_respond (unknownFrame_eq_wire420 ..) _ s, next_respond ?_ _ s, next_respond ?_ _ s⟩
  · rw [successFrameV4_eq_wireV4, enc32_dec32_lAddr]; rfl
  · rw [successFrameV6_eq_wireV6, enc128_dec128_lAddr]; rfl

/-- Settles O37: the three branches of BUILD_SUCCESS on the family. -/
theorem familyPicksSuccessBuilder : Obligations.FamilyPicksSuccessBuilder := fun s =>
  ⟨fun h => ⟨buildSuccessV4 s, buildSuccess_of_v4 h, rfl⟩, fun h => ⟨buildSuccessV6 s, buildSuccess_of_v6 h, rfl⟩,
    buildSuccess_of_other⟩

/-- Settles O39: the port's mask is the cookie's upper half, the IPv6 mask the cookie on top of the transaction id. -/
theorem xorEncoderValues : Obligations.XorEncoderValues := by
  intro s p a a6 t
  rw [← xorAddrV6_eq, ← xorMaskV6_eq]
  exact ⟨rfl, rfl, rfl, rfl⟩

/-- Settles O40: a mask XORed in twice cancels. -/
theorem xorIsItsOwnInverse : Obligations.XorIsItsOwnInverse :=
  ⟨fun p => xor_cancel_right p _, fun a => xor_cancel_right a _, fun a t => xor_cancel_right a (xorMaskV6 t)⟩

/-- Settles O41: the headers are bytes of their operands and constants; in the bodies the port's bytes are XORed one by one. -/
theorem headerAndAddressSerializers : Obligations.HeaderAndAddressSerializers := by
  intro s ty ml p a a6 t
  refine ⟨rfl, rfl, next_returnBytes ?_ s, next_returnBytes ?_ s⟩
  · rw [encAddrBodyV4, enc16_xorPort]; rfl
  · rw [encAddrBodyV6, enc16_xorPort, xorAddrV6_eq]; rfl

/-- Settles O42: the padding count is R200's; a code in range is returned by `returnForCode`, one out of range refused. -/
theorem errorSerializers : Obligations.ErrorSerializers := by
  intro s c r q0 q1 q2 q3
  obtain ⟨k, hk, hmod, hpad⟩ := padReason_eq r
  refine ⟨fun h1 h2 => returnForCode_of_inRange h1 h2 _ s, ⟨k, hk, hmod, ?_, fun h1 h2 => ?_⟩, rfl,
    fun h => ⟨returnForCode_of_outOfRange h _ s, returnForCode_of_outOfRange h _ s⟩⟩
  · exact next_returnBytes hpad s
  · rw [List.append_assoc, ← hpad]; exact returnForCode_of_inRange h1 h2 _ s

end Sys2Proof.Machine
end

section
/-! SUPPORT. The engine's turn: the bytes the decoded header holds, what PROCESS leaves in RESP as the wire response of the latch
(43_request_processor.md R240, R246), the paths on which it completes whatever the family, and its commit (R249). -/

namespace Sys2Proof.Machine

/-! ## The bytes of the decoded header -/

theorem enc16_hType (s : State) : enc16 (decodeHeader s).hType = s.lHdr.toList.take 2 :=
  beBytes_beValue_take 2 s.lHdr.toList (by simp)

theorem enc32_hCookie (s : State) : enc32 (decodeHeader s).hCookie = (s.lHdr.toList.drop 4).take 4 :=
  beBytes_beValue_take 4 (s.lHdr.toList.drop 4) (by simp)

theorem enc96_hTxid (s : State) : enc96 (decodeHeader s).hTxid = s.lHdr.toList.drop 8 :=
  (beBytes_beValue_take 12 (s.lHdr.toList.drop 8) (by simp)).trans (List.take_of_length_le (by simp))

/-- VALIDATE's type test, on the latched bytes (41_header_validator.md R163). -/
theorem hType_eq_bindingRequest_iff (s : State) :
    (decodeHeader s).hType = Config.typeBindingRequest ↔ s.lHdr.toList.take 2 = [0x00, 0x01] := by
  rw [← enc16_hType]
  exact (beBytes_inj 2 le_rfl (b := Config.typeBindingRequest)).symm

/-- VALIDATE's cookie test, on the latched bytes (41_header_validator.md R163). -/
theorem hCookie_eq_magicCookie_iff (s : State) :
    (decodeHeader s).hCookie = Config.magicCookie ↔ (s.lHdr.toList.drop 4).take 4 = [0x21, 0x12, 0xA4, 0x42] := by
  rw [← enc32_hCookie]
  exact (beBytes_inj 4 le_rfl (b := Config.magicCookie)).symm

/-- The two slots InvalidCookie fills are the cookie's bytes (41_header_validator.md R166). -/
theorem enc16_halves (c : Word) : enc16 (c.extractLsb' 16 16) ++ enc16 (c.extractLsb' 0 16) = enc32 c := by
  have hc : c.extractLsb' 16 16 ++ c.extractLsb' 0 16 = c := by
    rw [BitVec.extractLsb'_append_extractLsb'_eq_extractLsb' (by rfl)]; exact BitVec.extractLsb'_eq_self
  exact (beBytes_append 2 2 rfl _ _).symm.trans (congrArg enc32 hc)

theorem enc16_zero : enc16 0#16 = [0, 0] := rfl

/-- The 420 frame after InvalidType: the type in the first slot (30_encoding.md R104). -/
theorem unknownFrame_of_type (ty : Half) (t : TxId) :
    unknownFrame ⟨ty, 0#16, 0#16, 0#16⟩ t = wire420 (enc96 t) (enc16 ty ++ [0, 0, 0, 0, 0, 0]) := by
  simp only [unknownFrame_eq_wire420, enc16_zero, List.append_assoc, List.cons_append, List.nil_append]

/-- The 420 frame after InvalidCookie: the cookie in the first two slots (30_encoding.md R104). -/
theorem unknownFrame_of_cookie (c : Word) (t : TxId) :
    unknownFrame ⟨c.extractLsb' 16 16, c.extractLsb' 0 16, 0#16, 0#16⟩ t = wire420 (enc96 t) (enc32 c ++ [0, 0, 0, 0]) := by
  rw [unknownFrame_eq_wire420, enc16_halves]
  simp only [enc16_zero, List.append_assoc, List.cons_append, List.nil_append]

/-! ## The response -/

/-- PROCESS answers the wire response of the latch: each of its five ways is the arm of `wireResponse` that the same tests pick.
The header's bytes are first read as those of the decoded registers. -/
theorem latchedResponse_of_process {s t : State} (h : process s = .next t) : latchedResponse s = (t.resp, t.respOutcome) := by
  unfold latchedResponse wireResponse
  simp only [ne_eq, ← hType_eq_bindingRequest_iff, ← hCookie_eq_magicCookie_iff]
  simp only [← enc16_hType, ← enc32_hCookie, ← enc96_hTxid]
  obtain ⟨hl, rfl⟩ | ⟨hl, ht, rfl⟩ | ⟨hl, ht, hc, rfl⟩ | ⟨hl, ht, hc, ⟨hf, rfl⟩ | ⟨hf, rfl⟩⟩ := process_cases h
  · rw [if_pos hl, ← errorFrame_eq_wire400]; rfl
  · rw [if_neg hl.not_gt, if_pos ht, ← unknownFrame_of_type]; rfl
  · rw [if_neg hl.not_gt, if_neg (not_not.mpr ht), if_pos hc, ← unknownFrame_of_cookie]; rfl
  · have hf1 : s.lFamily = 0x01 := hf
    rw [if_neg hl.not_gt, if_neg (not_not.mpr ht), if_neg (not_not.mpr hc), if_pos hf1, ← enc32_dec32_lAddr]
    exact congrArg (·, 0x1#4) (successFrameV4_eq_wireV4 ..).symm
  · have hf1 : s.lFamily ≠ 0x01 := by rw [hf]; decide
    rw [if_neg hl.not_gt, if_neg (not_not.mpr ht), if_neg (not_not.mpr hc), if_neg hf1, ← enc128_dec128_lAddr]
    exact congrArg (·, 0x2#4) (successFrameV6_eq_wireV6 ..).symm

theorem resp_of_process {s t : State} (h : process s = .next t) : t.resp = (latchedResponse s).1 := by
  rw [latchedResponse_of_process h]

theorem respOutcome_of_process {s t : State} (h : process s = .next t) : t.respOutcome = (latchedResponse s).2 := by
  rw [latchedResponse_of_process h]

theorem latchedResponse_congr {s s' : State} (h : SameLatch s s') : latchedResponse s = latchedResponse s' := by
  obtain ⟨hlen, hhdr, hfam, hport, haddr⟩ := h
  rw [latchedResponse, latchedResponse, hlen, hhdr, hfam, hport, haddr]

/-- Where the latches have one wire response, PROCESS answers one frame and outcome. -/
theorem process_congr {s s' t t' : State} (heq : latchedResponse s = latchedResponse s') (h : process s = .next t)
    (h' : process s' = .next t') : t.resp = t'.resp ∧ t.respOutcome = t'.respOutcome :=
  Prod.mk.inj ((latchedResponse_of_process h).symm.trans (heq.trans (latchedResponse_of_process h')))

/-- The lengths of a frame that is there (42_response_builder.md R214, R217, R220). -/
theorem frameLength_of_pos (o : BitVec 4) (h : 0 < frameLength o) :
    frameLength o = 32 ∨ frameLength o = 36 ∨ frameLength o = 40 ∨ frameLength o = 44 := by
  revert o; decide

/-- The transaction id follows the eight bytes of a response's head (30_encoding.md R91). -/
theorem txid_of_wireHead (t0 t1 len : Byte) {txid : List Byte} (rest : List Byte) (h : txid.length = 12) :
    ((wireHead t0 t1 len ++ (txid ++ rest)).drop 8).take 12 = txid := by
  have hdrop : (wireHead t0 t1 len ++ (txid ++ rest)).drop 8 = txid ++ rest := rfl
  rw [hdrop, ← h, List.take_left]

/-- Past the length test every response carries the request's transaction id (43_request_processor.md R248). -/
theorem txid_of_wireResponse {len : Nat} {hdr : List Byte} (hlen : 20 ≤ len) (hhdr : hdr.length = 20) (family : Byte)
    (port addr : List Byte) : ((wireResponse len hdr family port addr).1.drop 8).take 12 = hdr.drop 8 := by
  have htxid : (hdr.drop 8).length = 12 := by rw [List.length_drop, hhdr]
  rw [wireResponse, if_neg hlen.not_gt]
  split_ifs
  all_goals
    simp only [wire420, wireV4, wireV6, List.append_assoc]
    exact txid_of_wireHead _ _ _ _ htxid

/-! ## The 400 and 420 paths -/

/-- A frame of this length and header takes the 400 path or a 420 path (43_request_processor.md R241, R244, R245). -/
def TakesErrorPath (len : Nat) (hdr : List Byte) : Prop :=
  len < 20 ∨ hdr.take 2 ≠ [0x00, 0x01] ∨ (hdr.drop 4).take 4 ≠ [0x21, 0x12, 0xA4, 0x42]

/-- Only the arms past the three tests read the peer (43_request_processor.md R252). -/
theorem wireResponse_of_errorPath {len : Nat} {hdr : List Byte} (h : TakesErrorPath len hdr) (f f' : Byte)
    (port port' addr addr' : List Byte) : wireResponse len hdr f port addr = wireResponse len hdr f' port' addr' := by
  unfold wireResponse
  by_cases hlen : len < 20
  · rw [if_pos hlen, if_pos hlen]
  · by_cases hty : hdr.take 2 ≠ [0x00, 0x01]
    · simp only [if_neg hlen, if_pos hty]
    · have hcookie : (hdr.drop 4).take 4 ≠ [0x21, 0x12, 0xA4, 0x42] := (h.resolve_left hlen).resolve_left hty
      simp only [if_neg hlen, if_neg hty, if_pos hcookie]

theorem process_of_otherType {s : State} (hl : 20 ≤ s.lLen.toNat) (ht : (decodeHeader s).hType ≠ Config.typeBindingRequest) :
    process s = .next (buildError420Type (setInvalidType (decodeHeader s))) := by
  rw [process, shortFrame_eq_false.mpr hl, validate_of_otherType ht]
  rfl

theorem process_of_badCookie {s : State} (hl : 20 ≤ s.lLen.toNat) (ht : (decodeHeader s).hType = Config.typeBindingRequest)
    (hc : (decodeHeader s).hCookie ≠ Config.magicCookie) :
    process s = .next (buildError420Cookie (setInvalidCookie (decodeHeader s))) := by
  rw [process, shortFrame_eq_false.mpr hl, validate_of_bindingRequest ht, validateCookie_of_bad hc]
  rfl

/-- On the error paths PROCESS completes whatever the latched family (log entry 9 is about the Valid path). -/
theorem process_completes_of_errorPath {s : State} (h : TakesErrorPath s.lLen.toNat s.lHdr.toList) :
    ∃ t, process s = .next t := by
  by_cases hl : s.lLen.toNat < 20
  · exact ⟨_, process_of_short hl⟩
  · by_cases ht : (decodeHeader s).hType = Config.typeBindingRequest
    · have hty : s.lHdr.toList.take 2 = [0x00, 0x01] := (hType_eq_bindingRequest_iff s).mp ht
      have hc : (decodeHeader s).hCookie ≠ Config.magicCookie :=
        mt (hCookie_eq_magicCookie_iff s).mp ((h.resolve_left hl).resolve_left (not_not.mpr hty))
      exact ⟨_, process_of_badCookie (Nat.not_lt.mp hl) ht hc⟩
    · exact ⟨_, process_of_otherType (Nat.not_lt.mp hl) ht⟩

/-- The 400 path writes the fixed 40 bytes, and nothing else (43_request_processor.md R241, 42_response_builder.md R215). -/
theorem next_buildError (s : State) : (.next (buildError s) : Result) = .next { s with resp := wire400, respOutcome := 0x3#4 } :=
  next_respond errorFrame_eq_wire400 _ s

/-! ## The commit -/

theorem step_of_noEvent {s : State} (h : s.events = []) : step s = exec .engineCommit s := by rw [step, h]

theorem exec_engineCommit_of_idle {s : State} (h : s.eng = .idle) : exec .engineCommit s = .next s := by
  show engineTurn s = _
  rw [engineTurn, h]

theorem exec_engineCommit_of_process {s p : State} (hb : s.eng = .busy) (hp : process s = .next p) :
    exec .engineCommit s = .next (commit p) := by
  show engineTurn s = _
  rw [engineTurn, hb, hp]

/-- While BUSY with a legal family the engine's turn commits what PROCESS answers (43_request_processor.md R247, R249). -/
theorem engineCommit_completes {s : State} (hb : s.eng = .busy) (hf : s.lFamily = 0x01 ∨ s.lFamily = 0x02) :
    ∃ p, process s = .next p ∧ exec .engineCommit s = .next (commit p) := by
  obtain ⟨p, hp⟩ := process_completes hf
  exact ⟨p, hp, exec_engineCommit_of_process hb hp⟩

/-- OUT_LEN counts the committed frame uncut (43_request_processor.md R249). -/
theorem commit_outLen_toNat {s p : State} (hp : process s = .next p) : (commit p).outLen.toNat = p.resp.length := by
  obtain ⟨hlen, hcode, -⟩ := process_resp hp
  exact (inv_commit ⟨hlen, hcode⟩).outLen_matches.trans hlen.symm

/-- PROCESS and its commit reach the result registers, DONE, ENG_STATE and the datapath registers alone. -/
theorem commit_process_frame {s p : State} (hp : process s = .next p) :
    commit p = { s with
      outBuf := (commit p).outBuf, outLen := (commit p).outLen, outcome := (commit p).outcome, done := true, eng := .idle
      hType := p.hType, hMlen := p.hMlen, hCookie := p.hCookie, hTxid := p.hTxid, vout := p.vout, quad := p.quad
      resp := p.resp, respOutcome := p.respOutcome } := by
  rw [process_frame hp]
  rfl

/-- The committed result reads RESP and RESP_OUTCOME alone. -/
theorem sameResult_commit {p p' : State} (hr : p.resp = p'.resp) (ho : p.respOutcome = p'.respOutcome) :
    SameResult (commit p) (commit p') := by
  rw [SameResult, commit_outBuf, commit_outLen, commit_outcome, hr, ho]
  exact ⟨rfl, rfl, rfl⟩

end Sys2Proof.Machine
end

section
/-! The obligations of 43_request_processor.md. -/

namespace Sys2Proof.Machine

/-- Settles O25: what is committed is the RESP that PROCESS answers, and that is the wire response of the latch. -/
theorem commitIsWireResponse : Obligations.CommitIsWireResponse := by
  intro s hb hf
  obtain ⟨p, hp, hcommit⟩ := engineCommit_completes hb hf
  rw [← resp_of_process hp, ← respOutcome_of_process hp]
  exact ⟨commit p, hcommit, fun i => by simp, commit_outLen_toNat hp, rfl, rfl, rfl, commit_process_frame hp⟩

/-- Settles O26: PROCESS completes on a legal family, and its frame has the length of an outcome that has one. -/
theorem processIsTotal : Obligations.ProcessIsTotal := by
  intro s hf
  obtain ⟨t, ht⟩ := process_completes hf
  obtain ⟨hlen, -, hpos⟩ := process_resp ht
  exact ⟨t, ht, hlen ▸ frameLength_of_pos t.respOutcome (hlen ▸ hpos)⟩

/-- Settles O28: RESP is the wire response, whose bytes 8 to 19 are the header's past the length test. -/
theorem transactionIdIsEchoed : Obligations.TransactionIdIsEchoed := by
  intro s hl hf
  obtain ⟨t, ht⟩ := process_completes hf
  exact ⟨t, ht, resp_of_process ht ▸ txid_of_wireResponse hl (by simp) _ _ _⟩

/-- Settles O30: both commit the wire response of their latches, which are equal. -/
theorem resultDependsOnLatchOnly : Obligations.ResultDependsOnLatchOnly := by
  intro s s' hb hb' hlatch hf
  have hf' : s'.lFamily = 0x01 ∨ s'.lFamily = 0x02 := by
    obtain ⟨-, -, hfam, -, -⟩ := hlatch
    exact hfam ▸ hf
  obtain ⟨p, hp, hcommit⟩ := engineCommit_completes hb hf
  obtain ⟨p', hp', hcommit'⟩ := engineCommit_completes hb' hf'
  obtain ⟨hresp, houtcome⟩ := process_congr (latchedResponse_congr hlatch) hp hp'
  exact ⟨commit p, commit p', hcommit, hcommit', sameResult_commit hresp houtcome⟩

/-- Settles O31: on the error paths PROCESS completes, and the wire response reads the length and the header alone. -/
theorem peerMattersOnlyWhenValid : Obligations.PeerMattersOnlyWhenValid := by
  intro s s' hlen hhdr (herr : TakesErrorPath s.lLen.toNat s.lHdr.toList)
  obtain ⟨t, ht⟩ := process_completes_of_errorPath herr
  obtain ⟨t', ht'⟩ := process_completes_of_errorPath (s := s') (hlen ▸ hhdr ▸ herr)
  have heq : latchedResponse s = latchedResponse s' := by
    rw [latchedResponse, latchedResponse, ← hlen, ← hhdr]
    exact wireResponse_of_errorPath herr _ _ _ _ _ _
  exact ⟨t, t', ht, ht', process_congr heq ht ht'⟩

/-- Settles O53: the invariant gives the latched family that lets PROCESS complete, and no frame of PROCESS is empty. -/
theorem busyEngineCommitsWhenNoEventIsToCome : Obligations.BusyEngineCommitsWhenNoEventIsToCome := by
  intro s hi hb he
  obtain ⟨p, hp, hcommit⟩ := engineCommit_completes hb (hi.busy_family hb)
  obtain ⟨-, -, hpos⟩ := process_resp hp
  exact ⟨commit p, (step_of_noEvent he).trans hcommit, ⟨rfl, rfl⟩, (commit_outLen_toNat hp).symm ▸ hpos⟩

/-- Settles O2: with no event to come `step` gives the engine its turn, which an IDLE instance passes. -/
theorem stepWithNoEventToCome : Obligations.StepWithNoEventToCome := by
  intro s he
  refine ⟨fun _ => step_of_noEvent he, fun hidle => ?_⟩
  have hturn := exec_engineCommit_of_idle hidle
  exact ⟨(step_of_noEvent he).trans hturn, hturn⟩

/-- Settles O27: the length test alone selects BUILD_ERROR, whose frame is constant. -/
theorem processShortFrameGives400 : Obligations.ProcessShortFrameGives400 :=
  fun s hl => (process_of_short hl).trans (next_buildError s)

/-- Settles O35: a row its range of L_LEN selects runs its own arm of the length test. -/
theorem lengthRowsActAsSelected : Obligations.LengthRowsActAsSelected := by
  intro s
  have hfull (hl : 20 ≤ s.lLen.toNat) : exec .rxFullHeader s = .next (decodeHeader s) := congrArg Host.Outcome.next (if_pos hl)
  refine ⟨fun hl => ?_, fun h16 h19 => ?_, fun hl => ⟨hfull hl, decodeHeader s, hfull hl, dec16_lHdr s.lHdr, rfl⟩⟩
  · exact (congrArg Host.Outcome.next (if_pos hl)).trans (next_buildError s)
  · exact (congrArg Host.Outcome.next (if_pos ⟨h16, h19⟩)).trans (next_buildError s)

end Sys2Proof.Machine
end

section
/-! SUPPORT. Host accesses and commands, each as one equation: the register map by offset, a read that draws nothing, a data write,
and the CTRL and STATUS writes by the conditions of 44_host_commands.md. -/

namespace Sys2Proof.Machine

/-! ## The register map by offset -/

/-- Register r has a word at byte offset `off`, as 10_state.md R31 numbers them; the reserved offsets are the gaps. -/
def Reg.sitsAt (r : Reg) (off : Nat) : Bool :=
  match r with
  | .id => off == 0x000
  | .ctrl => off == 0x004
  | .status => off == 0x008
  | .inLen => off == 0x00C
  | .peerFamily => off == 0x010
  | .peerPort => off == 0x014
  | .outLen => off == 0x018
  | .peerAddr k => off == 0x020 + 4 * k.val
  | .inHdr k => off == 0x040 + 4 * k.val
  | .outBuf k => off == 0x080 + 4 * k.val
  | .reserved => off == 0x01C || (0x030 ≤ off && off < 0x040) || (0x054 ≤ off && off < 0x080) || 0x0B0 ≤ off

theorem sitsAt_regAt : ∀ idx : BitVec 6, (regAt idx).sitsAt (4 * idx.toNat) = true := by decide

theorem flagBit_eq_ite (b : Bool) (k : Nat) : flagBit b k = if b then 1#32 <<< k else 0#32 := by
  cases b <;> simp [flagBit]

theorem registerWord_ctrl (s : State) : registerWord s 0x004 = ctrlWord s := by
  simp [registerWord, ctrlWord, flagBit_eq_ite]

theorem registerWord_status (s : State) : registerWord s 0x008 = statusWord s s.outcome := by
  simp [registerWord, statusWord, flagBit_eq_ite]

theorem registerWord_peerAddr (s : State) (k : Fin 4) : registerWord s (0x020 + 4 * k.val) = s.peerAddr[k] := by
  fin_cases k <;> rfl

theorem registerWord_inHdr (s : State) (k : Fin 5) : registerWord s (0x040 + 4 * k.val) = s.inHdr[k] := by
  fin_cases k <;> rfl

theorem registerWord_outBuf (s : State) (k : Fin 12) : registerWord s (0x080 + 4 * k.val) = outWord s.outBuf k := by
  rw [outWord, dec32_cons]
  fin_cases k <;> rfl

theorem registerWord_reserved (s : State) {off : Nat} (h : Reg.reserved.sitsAt off = true) : registerWord s off = 0#32 := by
  simp only [Reg.sitsAt, Bool.or_eq_true, Bool.and_eq_true, beq_iff_eq, decide_eq_true_eq] at h
  rw [registerWord, if_neg (by omega), if_neg (by omega), if_neg (by omega), if_neg (by omega), if_neg (by omega),
    if_neg (by omega), if_neg (by omega), dif_neg (by omega), dif_neg (by omega), dif_neg (by omega)]

/-- Where the register shows no free value, its reading is the register map's word at its offset (10_state.md R31). -/
theorem readReg_eq_registerWord {s : State} {r : Reg} {off : Nat} (hoff : r.sitsAt off = true) (hd : isDrawn s r = false) :
    readReg s r = registerWord s off := by
  have hshown (hr : drawsOnRead r = true) : s.busy = false := by simpa [isDrawn, hr] using hd
  cases r with
  | reserved => exact (registerWord_reserved s hoff).symm
  | id | inLen | peerFamily | peerPort => rw [beq_iff_eq.mp hoff]; rfl
  | ctrl => rw [beq_iff_eq.mp hoff, registerWord_ctrl]; rfl
  | status => rw [beq_iff_eq.mp hoff, registerWord_status, readReg, hshown rfl]; rfl
  | outLen => rw [beq_iff_eq.mp hoff, readReg, hshown rfl]; rfl
  | peerAddr k => rw [beq_iff_eq.mp hoff, registerWord_peerAddr]; rfl
  | inHdr k => rw [beq_iff_eq.mp hoff, registerWord_inHdr]; rfl
  | outBuf k => rw [beq_iff_eq.mp hoff, registerWord_outBuf, readReg, hshown rfl]; rfl

/-! ## Reads that draw nothing -/

/-- A read that draws nothing returns its register and changes nothing else (44_host_commands.md R270, 20_memory.md R67). -/
theorem exec_hostRd_undrawn {s : State} {idx : BitVec 6} (hd : isDrawn s (regAt idx) = false) :
    exec (.hostRd idx) s = .next { s with readData := readReg s (regAt idx) } := by
  show Host.Outcome.next (hostRead (regAt idx) s) = _
  rw [hostRead, hd]
  rfl

theorem exec_hostRd_registerWord {s : State} {idx : BitVec 6} (hd : isDrawn s (regAt idx) = false) :
    exec (.hostRd idx) s = .next { s with readData := registerWord s (4 * idx.toNat) } := by
  rw [exec_hostRd_undrawn hd, readReg_eq_registerWord (sitsAt_regAt idx) hd]

theorem isDrawn_of_idle {s : State} (h : s.eng = .idle) (r : Reg) : isDrawn s r = false := by
  simp [isDrawn, h]

theorem isDrawn_of_drawsOnRead {r : Reg} (h : drawsOnRead r = false) (s : State) : isDrawn s r = false := by
  simp [isDrawn, h]

/-- The registers that show a result sit at the result offsets (20_memory.md R73). -/
theorem drawsOnRead_of_not_resultOffset {idx : BitVec 6} (h : ¬ isResultOffset (4 * idx.toNat)) :
    drawsOnRead (regAt idx) = false := by
  have hsits := sitsAt_regAt idx
  unfold isResultOffset at h
  cases hr : regAt idx with
  | status | outLen | outBuf k =>
    simp only [hr, Reg.sitsAt, beq_iff_eq] at hsits
    omega
  | _ => rfl

/-! ## Data writes -/

theorem exec_hostWr {idx : BitVec 6} (hd : isDataIndex idx = true) (v : Word) (s : State) :
    exec (.hostWr idx v) s = .next (writeReg (regAt idx) v s) := congrArg Host.Outcome.next (if_pos hd)

/-- No well-formed HOST_WR_IGNORED names a data register or a command (44_host_commands.md R280). -/
theorem exec_hostWrIgnored {idx : BitVec 6} {v : Word} (h : (Instr.hostWrIgnored idx v).wf = true) (s : State) :
    exec (.hostWrIgnored idx v) s = .next s := by
  obtain ⟨hd, hc⟩ : isDataIndex idx = false ∧ isCommandIndex idx = false := by
    simpa only [Instr.wf, Bool.and_eq_true, Bool.not_eq_true'] using h
  exact congrArg Host.Outcome.next (if_neg (by rw [hd, hc]; decide))

/-- The word indexes of the peer address window (10_state.md R31). -/
theorem regAt_peerAddr (k : Fin 4) : regAt (BitVec.ofNat 6 (8 + k)) = .peerAddr k := by revert k; decide

/-- The word indexes of the input window (10_state.md R31). -/
theorem regAt_inHdr (k : Fin 5) : regAt (BitVec.ofNat 6 (16 + k)) = .inHdr k := by revert k; decide

theorem isDataIndex_peerAddr (k : Fin 4) : isDataIndex (BitVec.ofNat 6 (8 + k)) = true := by revert k; decide

theorem isDataIndex_inHdr (k : Fin 5) : isDataIndex (BitVec.ofNat 6 (16 + k)) = true := by revert k; decide

/-- The data registers: PEER_FAMILY and PEER_PORT, narrower than a word, at indexes 4 and 5, and the ten that are whole words
(10_state.md R24 to R28, R31). -/
theorem regAt_of_isDataIndex : ∀ idx : BitVec 6, isDataIndex idx = true →
    (idx = 4 ∧ regAt idx = .peerFamily) ∨ (idx = 5 ∧ regAt idx = .peerPort) ∨
    ((idx ≠ 4 ∧ idx ≠ 5) ∧ (regAt idx = .inLen ∨ (∃ k, regAt idx = .peerAddr k) ∨ ∃ k, regAt idx = .inHdr k)) := by decide

theorem drawsOnRead_of_isDataIndex : ∀ idx : BitVec 6, isDataIndex idx = true → drawsOnRead (regAt idx) = false := by decide

/-- Cutting a word to its low byte is masking it. -/
theorem lowByte_eq_and (d : Word) : (d.extractLsb' 0 8).setWidth 32 = d &&& 0xFF#32 := by
  apply BitVec.eq_of_toNat_eq
  have hmask : d.toNat &&& 255 = d.toNat % 256 := Nat.and_two_pow_sub_one_eq_mod d.toNat 8
  simp only [BitVec.toNat_setWidth, BitVec.extractLsb'_toNat, BitVec.toNat_and, BitVec.toNat_ofNat, Nat.shiftRight_zero,
    Nat.reducePow, Nat.reduceMod, hmask]
  omega

/-- A data register reads back the defined bits written (44_host_commands.md R271). -/
theorem readReg_writeReg_same {idx : BitVec 6} (hd : isDataIndex idx = true) (v : Word) (s : State) :
    readReg (writeReg (regAt idx) v s) (regAt idx) =
      if idx = 4 then v &&& 0xFF#32 else if idx = 5 then v &&& 0xFFFF#32 else v := by
  obtain ⟨rfl, hr⟩ | ⟨rfl, hr⟩ | ⟨⟨h4, h5⟩, hr⟩ := regAt_of_isDataIndex idx hd
  · rw [hr]
    exact lowByte_eq_and v
  · rw [hr]
    exact lowHalf_eq_and v
  · rw [if_neg h4, if_neg h5]
    obtain hr | ⟨k, hr⟩ | ⟨k, hr⟩ := hr
    · rw [hr]; rfl
    · rw [hr]; exact Vector.getElem_set_self k.isLt
    · rw [hr]; exact Vector.getElem_set_self k.isLt

/-! ## CTRL and STATUS writes -/

/-- A CTRL write, condition by condition, the first that holds deciding (44_host_commands.md R272, 60_exceptions.md R307). -/
theorem ctrlWrite_eq (v : Word) (s : State) : ctrlWrite v s =
    if v.getLsbD 1 then resetInstance s
    else if v.getLsbD 0 = false then storeCtrl v s
    else if s.eng = .busy then refuseBusy v s
    else if v.extractLsb' 4 4 ≠ 0x1#4 then refuseOp v s
    else if ¬ (s.peerFamily = 0x01#8 ∨ s.peerFamily = 0x02#8) then refuseFamily v s
    else acceptStart v s := by
  obtain ⟨h1, e⟩ | ⟨h1, h0, e⟩ | ⟨h1, h0, hb, e⟩ | ⟨h1, h0, hi, hop, e⟩ | ⟨h1, h0, hi, hop, hf, e⟩ | ⟨h1, h0, hi, hop, hf, e⟩ :=
    ctrlWrite_cases v s
  · rw [e, if_pos h1]
  · simp only [e, h1, h0, reduceCtorEq, if_true, if_false]
  · simp only [e, h1, h0, hb, reduceCtorEq, if_true, if_false]
  · simp only [e, h1, h0, hi, if_pos hop, reduceCtorEq, if_false]
  · simp only [e, h1, h0, hi, hop, hf, reduceCtorEq, ne_eq, not_true, not_false_iff, if_true, if_false]
  · simp only [e, h1, h0, hi, hop, hf, reduceCtorEq, ne_eq, not_true, if_false]

/-- A marked bit falls, the others stay (44_host_commands.md R279). -/
theorem and_not_eq_ite (flag mark : Bool) : (flag && !mark) = if mark then false else flag := by cases mark <;> simp

/-! ## The committed result -/

/-- A step that changes the committed result commits or resets: the other kinds leave OUT, OUT_LEN and OUTCOME (20_memory.md R72). -/
theorem sameResult_of_step {s t : State} (h : step s = .next t) : SameResult s t ∨ IsCommitStep s ∨ IsResetStep s := by
  obtain hq | ⟨rest, ⟨hr, -⟩ | ⟨v, -, rfl⟩ | ⟨v, -, -, rfl⟩ | ⟨hc, -⟩⟩ := step_kinds h
  · exact .inl hq.result
  · exact .inr (.inr hr)
  · exact .inl (sameResult_refl s)
  · exact .inl (sameResult_refl s)
  · exact .inr (.inl hc)

end Sys2Proof.Machine
end

section
/-! The obligations of 44_host_commands.md. -/

namespace Sys2Proof.Machine

/-- Settles O10: an IDLE engine draws nothing. -/
theorem idleReadReturnsRegister : Obligations.IdleReadReturnsRegister :=
  fun _ idx hi => exec_hostRd_registerWord (isDrawn_of_idle hi (regAt idx))

/-- Settles O56: a register that sits at no result offset draws nothing in any state. -/
theorem otherReadReturnsRegisterInAnyState : Obligations.OtherReadReturnsRegisterInAnyState :=
  fun s _ h => exec_hostRd_registerWord (isDrawn_of_drawsOnRead (drawsOnRead_of_not_resultOffset h) s)

/-- Settles O14: no data register draws, so its reading is what was written; no other offset names it. -/
theorem writeThenReadBack : Obligations.WriteThenReadBack := by
  intro s idx j v hd
  refine ⟨writeReg (regAt idx) v s, exec_hostWr hd v s, ?_, fun hj => ?_⟩
  · rw [exec_hostRd_undrawn (isDrawn_of_drawsOnRead (drawsOnRead_of_isDataIndex idx hd) _), readReg_writeReg_same hd]
  · exact ⟨_, _, rfl, rfl, readReg_writeReg_ne (regAt_ne hd hj) v s⟩

/-- Settles O49: of the kinds of step only a commit and a reset reach the committed result. -/
theorem resultChangesOnlyByCommitOrReset : Obligations.ResultChangesOnlyByCommitOrReset :=
  fun _ _ h hne => (sameResult_of_step h).resolve_left hne

/-- Settles O13: HOST_WR writes the register its index names, and HOST_WR_IGNORED's index names none. -/
theorem dataWriteStoresDefinedBits : Obligations.DataWriteStoresDefinedBits := by
  intro s v
  refine ⟨rfl, rfl, rfl, fun k => ?_, fun k => ?_, fun idx h => exec_hostWrIgnored h s⟩
  · rw [exec_hostWr (isDataIndex_peerAddr k), regAt_peerAddr]; rfl
  · rw [exec_hostWr (isDataIndex_inHdr k), regAt_inHdr]; rfl

/-- Settles O16: BUSY is the first START check that fails. -/
theorem startWhileBusySetsErrBusy : Obligations.StartWhileBusySetsErrBusy := by
  intro s v h1 h0 hb
  have hrow : ctrlWrite v s = refuseBusy v s := by
    simp only [ctrlWrite_eq, h1, h0, hb, reduceCtorEq, if_true, if_false]
  exact (exec_ctrlRow .startBusy v s).trans (congrArg Host.Outcome.next hrow)

/-- Settles O17: while IDLE the check of OP is the first that fails. -/
theorem startReservedOpSetsErrOp : Obligations.StartReservedOpSetsErrOp := by
  intro s v h1 h0 hop hi
  have hrow : ctrlWrite v s = refuseOp v s := by
    simp only [ctrlWrite_eq, h1, h0, hi, if_pos hop, reduceCtorEq, if_false]
  exact (exec_ctrlRow .startReservedOp v s).trans (congrArg Host.Outcome.next hrow)

/-- Settles O18: the check of PEER_FAMILY is the last, and the one that fails. -/
theorem startBadFamilySetsErrFamily : Obligations.StartBadFamilySetsErrFamily := by
  intro s v h1 h0 hop hi hf4 hf6
  have hf : ¬ (s.peerFamily = 0x01#8 ∨ s.peerFamily = 0x02#8) := not_or.mpr ⟨hf4, hf6⟩
  have hrow : ctrlWrite v s = refuseFamily v s := by
    simp only [ctrlWrite_eq, h1, h0, hi, hop, if_pos hf, reduceCtorEq, ne_eq, not_true, if_false]
  exact (exec_ctrlRow .startBadFamily v s).trans (congrArg Host.Outcome.next hrow)

/-- Settles O19: the START passes every check. -/
theorem acceptedStartLatchesInputs : Obligations.AcceptedStartLatchesInputs :=
  fun s v h1 h0 hop hi hf =>
    (exec_ctrlRow .process v s).trans (congrArg Host.Outcome.next (ctrlWrite_of_startAccepted ⟨h0, h1, hop, hi, hf⟩))

/-- Settles O20: neither SOFT_RESET nor START is written, so only the stored fields change. -/
theorem configStoresCtrlFields : Obligations.ConfigStoresCtrlFields := by
  intro s v h1 h0
  have hrow : ctrlWrite v s = storeCtrl v s := by
    simp only [ctrlWrite_eq, h1, h0, reduceCtorEq, if_true, if_false]
  exact (exec_ctrlRow .config v s).trans (congrArg Host.Outcome.next hrow)

/-- Settles O22: each sticky bit stays where its mark is 0. -/
theorem statusWriteClearsMarkedBits : Obligations.StatusWriteClearsMarkedBits := by
  intro s v
  show Host.Outcome.next (clearFlags v s) = _
  simp only [clearFlags, and_not_eq_ite]

end Sys2Proof.Machine
end

section
/-! SUPPORT. The error bits one CTRL write sets, and its effect where the instruction of a row is known (60_exceptions.md R307). -/

namespace Sys2Proof.Machine

/-- The error bits that go from 0 to 1 between s and t, each as its two values (10_state.md R23). -/
def raisedErrors (s t : State) : List (Bool × Bool) :=
  [(s.errOp, t.errOp), (s.errBusy, t.errBusy), (s.errFamily, t.errFamily)].filter (· = (false, true))

/-- `b' ≤ b` says that a bit does not go from 0 to 1. -/
theorem raised_length_le_one : ∀ a a' b b' c c' : Bool, (a' ≤ a ∧ b' ≤ b) ∨ (a' ≤ a ∧ c' ≤ c) ∨ (b' ≤ b ∧ c' ≤ c) →
    ([(a, a'), (b, b'), (c, c')].filter (· = (false, true))).length ≤ 1 := by decide

/-- At most one error bit is set where two of the three do not rise. -/
theorem raisedErrors_length_le_one {s t : State}
    (h : (t.errOp ≤ s.errOp ∧ t.errBusy ≤ s.errBusy) ∨ (t.errOp ≤ s.errOp ∧ t.errFamily ≤ s.errFamily) ∨
      (t.errBusy ≤ s.errBusy ∧ t.errFamily ≤ s.errFamily)) : (raisedErrors s t).length ≤ 1 :=
  raised_length_le_one _ _ _ _ _ _ h

/-- A CTRL write sets at most one error bit: each refusal sets its own, the other rows none (60_exceptions.md R307). -/
theorem ctrlWrite_raises_at_most_one (v : Word) (s : State) : (raisedErrors s (ctrlWrite v s)).length ≤ 1 := by
  apply raisedErrors_length_le_one
  obtain ⟨-, e⟩ | ⟨-, -, e⟩ | ⟨-, -, -, e⟩ | ⟨-, -, -, -, e⟩ | ⟨-, -, -, -, -, e⟩ | ⟨-, -, -, -, -, e⟩ :=
    ctrlWrite_cases v s <;> rw [e]
  · exact .inl ⟨Bool.false_le _, Bool.false_le _⟩
  · exact .inl ⟨le_rfl, le_rfl⟩
  · exact .inr (.inl ⟨le_rfl, le_rfl⟩)
  · exact .inr (.inr ⟨le_rfl, le_rfl⟩)
  · exact .inl ⟨le_rfl, le_rfl⟩
  · exact .inl ⟨le_rfl, le_rfl⟩

/-- A CTRL write of v has the effect the instruction of any of its rows has (30_encoding.md R110). -/
theorem ctrlWrite_eq_of_exec (row : CtrlRow) {v : Word} {s t : State} (h : exec (row.instr v) s = .next t) : ctrlWrite v s = t :=
  Host.Outcome.next.inj ((exec_ctrlRow row v s).symm.trans h)

end Sys2Proof.Machine
end

section
/-! The obligations of 60_exceptions.md. -/

namespace Sys2Proof.Machine

/-- Settles O21: the step is the CTRL write on the state without the event, and each condition's effect is the one its own
instruction has there. -/
theorem ctrlWriteFirstConditionWins : Obligations.CtrlWriteFirstConditionWins := by
  intro s v rest he u stored
  refine ⟨ctrlWrite v u, step_write he (by decide) (by decide), fun h1 => ?reset, fun h1 h0 hb => ?busy,
    fun h1 h0 hi hop => ?op, fun h1 h0 hi hop hf => ?family, fun h1 h0 hi hop hf => ?accept, fun h1 h0 => ?config,
    ctrlWrite_raises_at_most_one v u⟩
  case reset => rw [ctrlWrite_eq, if_pos h1, resetInstance_hw]
  case busy => exact ctrlWrite_eq_of_exec .startBusy (startWhileBusySetsErrBusy u v h1 h0 hb)
  case op => exact ctrlWrite_eq_of_exec .startReservedOp (startReservedOpSetsErrOp u v h1 h0 hop hi)
  case family =>
    obtain ⟨hf4, hf6⟩ := not_or.mp hf
    exact ctrlWrite_eq_of_exec .startBadFamily (startBadFamilySetsErrFamily u v h1 h0 hop hi hf4 hf6)
  case accept =>
    rw [ctrlWrite_of_startAccepted (s := u) ⟨h0, h1, hop, hi, hf⟩]
    exact ⟨rfl, rfl, rfl, rfl⟩
  case config => exact ctrlWrite_eq_of_exec .config (configStoresCtrlFields u v h1 h0)

end Sys2Proof.Machine
end

section
/-! SUPPORT. The two reset sources as one operation, what it leaves the engine, and the register words after reset
(70_reset_and_hazards.md R340 to R342). -/

namespace Sys2Proof.Machine

/-! ## The reset sources -/

/-- SOFT_RESET decides a CTRL write whatever the other bits (44_host_commands.md R273). -/
theorem exec_cmdSoftReset {v : Word} (h : v.getLsbD 1 = true) (s : State) :
    exec (.cmdSoftReset v) s = .next (resetInstance s) := by
  have hrow : ctrlWrite v s = resetInstance s := by rw [ctrlWrite_eq, if_pos h]
  exact (exec_ctrlRow .softReset v s).trans (congrArg Host.Outcome.next hrow)

theorem step_of_rst {s : State} {rest : List Event} (h : s.events = .rst :: rest) :
    step s = .next (resetInstance { s with events := rest }) := by rw [step, h]

/-! ## What a reset leaves -/

@[simp] theorem resetInstance_irq (s : State) : (resetInstance s).irq = false := rfl

/-- No byte of a committed frame outlives a reset (10_state.md R40). -/
theorem resetInstance_outByte (s : State) (i : Fin 48) : (resetInstance s).outBuf[i] = 0 :=
  Vector.getElem_replicate i.isLt

/-- A reset leaves the engine no PROCESS to commit (70_reset_and_hazards.md R342). -/
theorem exec_engineCommit_resetInstance (s : State) :
    exec .engineCommit (resetInstance s) = .next (resetInstance s) :=
  exec_engineCommit_of_idle (resetInstance_eng s)

/-! ## The register words after reset -/

@[simp] theorem outWord_replicate_zero (k : Fin 12) : outWord (Vector.replicate 48 0#8) k = 0#32 := by
  simp only [outWord, Vector.getElem_replicate]
  decide

/-- Of the registers ID and CTRL alone read other than 0 after reset (70_reset_and_hazards.md R341). -/
theorem readReg_reset (r : Reg) :
    readReg State.reset r = if r = .id then 0x5354554E#32 else if r = .ctrl then 0x00000010#32 else 0#32 := by
  cases r with
  | peerAddr k => exact Vector.getElem_replicate k.isLt
  | inHdr k => exact Vector.getElem_replicate k.isLt
  | outBuf k => exact outWord_replicate_zero k
  | _ => rfl

theorem regAt_eq_id_iff : ∀ idx : BitVec 6, regAt idx = .id ↔ idx = 0 := by decide

theorem regAt_eq_ctrl_iff : ∀ idx : BitVec 6, regAt idx = .ctrl ↔ idx = 1 := by decide

end Sys2Proof.Machine
end

section
/-! The obligations of 70_reset_and_hazards.md. -/

namespace Sys2Proof.Machine

/-- Settles O7: both sources are the one reset operation. -/
theorem resetsGiveResetState : Obligations.ResetsGiveResetState :=
  ⟨fun s _ hv => ⟨_, exec_cmdSoftReset hv s, resetInstance_hw s, resetInstance_eng s, resetInstance_irq s⟩,
    fun _ _ he => ⟨_, step_of_rst he, resetInstance_hw _, resetInstance_eng _, resetInstance_irq _⟩⟩

/-- Settles O8: only the indexes 0 and 1 name ID and CTRL. -/
theorem readsAfterReset : Obligations.ReadsAfterReset := by
  intro idx
  simp only [readReg_reset, regAt_eq_id_iff, regAt_eq_ctrl_iff]

/-- Settles O9: from any state, BUSY or not, a reset leaves an idle engine with an empty result. -/
theorem resetAbandonsProcess : Obligations.ResetAbandonsProcess := by
  refine fun s _ => ⟨fun v hv => ⟨_, exec_cmdSoftReset hv s, ?_⟩, fun rest he => ⟨_, step_of_rst he, ?_⟩⟩ <;>
    exact ⟨resetInstance_eng _, resetInstance_done _, resetInstance_outLen _, resetInstance_outByte _,
      exec_engineCommit_resetInstance _⟩

end Sys2Proof.Machine
end
